-- ==== Sys2Proof/Word.lean ====
section
/-! DEFINITION. The widths of the manual (00_scope.md R6): "long word" is 32 bits, "word" 16 bits, "byte" 8 bits;
register fields are 6 bits in 32-bit instructions and 3 bits in 16-bit ones. -/

namespace Sys2Proof

/-- A long word: core registers, auxiliary registers, addresses (R6). -/
abbrev Word := BitVec 32

/-- An instruction half-word (20_memory.md R97). -/
abbrev Half := BitVec 16

/-- A byte of memory. -/
abbrev Byte := BitVec 8

/-- A 6-bit core register field, r0 to r63 (10_state.md R20). -/
abbrev Reg := BitVec 6

/-- A 3-bit register field of a 16-bit instruction (10_state.md R23). -/
abbrev Reg3 := BitVec 3

end Sys2Proof
end

