-- ==== Sys2Proof/Config.lean ====
section
/-! DEFINITION. The parameters the manual leaves to the implementation (00_scope.md R7; 92_eei_decisions.md section 1), as
plain data, and the free values (93_implementation_defined.md section 2), as opaque constants. -/

namespace Sys2Proof

/-- The kinds of access that `MEM_VALID` distinguishes (20_memory.md R90). -/
inductive AccessKind where
  | fetch | load | store
deriving DecidableEq, Repr

/-- The two maskable interrupt levels (60_exceptions.md R561). -/
inductive Level where
  | one | two
deriving DecidableEq, Repr

/-- The optional components of the extensions library (46_extensions.md R530, R531). -/
inductive Opt where
  | mul64 | norm | swap | barrel
deriving DecidableEq, Repr

/-- A range of addresses at which the named kinds of access are not valid memory (R90, `MEM_VALID`). -/
structure InvalidRegion where
  base : Nat
  size : Nat
  noFetch : Bool
  noLoad : Bool
  noStore : Bool
deriving DecidableEq, Repr

/-- One interrupt line: its vector number (3 to n) and its level (`IRQ_LEVEL`, 60_exceptions.md R563). -/
structure IrqLine where
  vector : Nat
  level : Level
deriving DecidableEq, Repr

/-- The configuration: the parameters of R7. `irqLines` lists the lines irq3 to irqn in order of priority within a level
(NUM_IRQ, IRQ_LEVEL and IRQ_PRIORITY at once); `invalidMemory` gives MEM_VALID; `extCore` the extension core registers
that exist besides r57 to r59, which HAS_MUL64 gives (EXT_CORE_REG); `extAux` the numbers of the extension auxiliary
registers that exist (EXT_AUX_REG); `extCond` the implemented extension condition codes, each with the truth table of its
test over Z N C V (EXT_COND). No rule depends on `loadLatency`, `hasICache` and `hasDCache` (LOAD_LATENCY, HAS_ICACHE,
HAS_DCACHE; 70_reset_and_hazards.md R640, 20_memory.md R115 to R117, log 9). BCR is `Config.buildReg`. -/
structure Config where
  identity : Word
  intVectorBaseReset : Word
  irqLines : List IrqLine
  invalidMemory : List InvalidRegion
  hasMul64 : Bool
  hasNorm : Bool
  hasSwap : Bool
  hasBarrel : Bool
  semaphoreBits : Nat
  extCore : List Reg
  extAux : List Word
  extCond : List (BitVec 5 × BitVec 16)
  loadLatency : Option Nat
  hasICache : Bool
  hasDCache : Bool
deriving DecidableEq, Repr

namespace Config

/-- The defaults of 92_eei_decisions.md section 1 (log 5). -/
def default : Config where
  identity := 0x21#32
  intVectorBaseReset := 0#32
  irqLines := [⟨3, .one⟩, ⟨4, .one⟩, ⟨5, .one⟩, ⟨6, .two⟩, ⟨7, .two⟩, ⟨8, .one⟩, ⟨9, .one⟩, ⟨10, .one⟩, ⟨11, .one⟩,
    ⟨12, .one⟩, ⟨13, .one⟩, ⟨14, .one⟩, ⟨15, .one⟩]
  invalidMemory := []
  hasMul64 := true
  hasNorm := true
  hasSwap := true
  hasBarrel := true
  semaphoreBits := 4
  extCore := []
  extAux := []
  extCond := []
  loadLatency := none
  hasICache := false
  hasDCache := false

/-- What the manual asks of the parameters (R7): ARCVER of the ARC 600 family (10_state.md R41), a vector base on a 1 KB
boundary (R51), the lines irq3 to irqn each once (60_exceptions.md R563), 4 to 32 semaphore bits (R43), extension core
registers r32 to r56 (R29), extension condition codes 0x10 to 0x1F (R37). -/
def wf (cfg : Config) : Bool :=
  cfg.identity.extractLsb' 4 4 == 2#4 && cfg.intVectorBaseReset.extractLsb' 0 10 == 0#10 &&
    decide (1 ≤ cfg.irqLines.length) &&
    (cfg.irqLines.map (·.vector)).isPerm ((List.range cfg.irqLines.length).map (· + 3)) &&
    decide (4 ≤ cfg.semaphoreBits) && decide (cfg.semaphoreBits ≤ 32) &&
    cfg.extCore.all (fun r => decide (32 ≤ r.toNat) && decide (r.toNat < 57)) &&
    cfg.extCond.all (fun x => decide (16 ≤ x.1.toNat))

/-- Whether an optional component is present (HAS_MUL64, HAS_NORM, HAS_SWAP, HAS_BARREL). -/
def has (cfg : Config) : Opt → Bool
  | .mul64 => cfg.hasMul64
  | .norm => cfg.hasNorm
  | .swap => cfg.hasSwap
  | .barrel => cfg.hasBarrel

/-- The free values UNKNOWN32 (00_scope.md R9; log 4): draw number and place within the instruction give an unconstrained
value. No body: nothing can be proved of its values. -/
opaque freeWord : Nat → Nat → Word

/-- The build configuration registers 0x60 to 0x7F (10_state.md R52, R53; log 6): constants of the build, contents not given. -/
opaque buildReg : Word → Word

/-- What LR reads of the extension auxiliary register of a number, from what it holds: the register's own rule, which the
manual leaves to the implementation (00_scope.md R4 (c), R7; log 7). -/
opaque extAuxView : Word → Word → Word

/-- What the extension auxiliary register of a number holds after an SR, from what it held and the data: its own rule (log 7). -/
opaque extAuxTake : Word → Word → Word → Word

end Config

end Sys2Proof
end

