-- ==== Sys2Proof/Forms.lean ====
section
/-! DEFINITION. The formats of the 32-bit instructions (30_encoding.md R136 to R156), as the arguments of the constructors of
`Instr`. One mnemonic in the formats of its group is one constructor with the format as its argument, so that every row of
spec/opcode_table.json is one constructor applied to one format (Lean's compiler takes no inductive type with more than 244
constructors that hold data, and the table has 349 rows).

A register field is `Reg` (r0 to r63). The other fields hold the bits of the encoding, assembled as R190 assembles them and
not yet extended or scaled: `u` an unsigned immediate, `s` a signed immediate or displacement without its implied low zeros,
`f` the flag-setting bit, `q` the condition code, `n` the delay-slot mode, `aa` the write-back mode, `di` the cache bypass.
`limm` is the long immediate word, present exactly when a source register field holds 62 (R133); it is 0 otherwise
(`WellFormed`). Reserved fields have no place here: decoding ignores them (92_eei_decisions.md D7). `JFForm` says which link
register is named (`link2`: ILINK2) and whether the form is `J.D.F` (`d`, 92_eei_decisions.md D19). -/

namespace Sys2Proof

/-- The five general operand formats (R136). -/
inductive GenForm where
  | abc (f : Bool) (a b c : Reg) (limm : Word)
  | abu6 (f : Bool) (a b : Reg) (u : BitVec 6) (limm : Word)
  | bbs12 (f : Bool) (b : Reg) (s : BitVec 12) (limm : Word)
  | ccbbc (f : Bool) (b c : Reg) (q : BitVec 5) (limm : Word)
  | ccbbu6 (f : Bool) (b : Reg) (u : BitVec 6) (q : BitVec 5) (limm : Word)
deriving DecidableEq, Repr

/-- The five general formats with neither destination nor F (TST, CMP, RCMP, BTST: R141; MUL64, MULU64: R540). -/
inductive CmpForm where
  | bc (b c : Reg) (limm : Word)
  | bu6 (b : Reg) (u : BitVec 6) (limm : Word)
  | bs12 (b : Reg) (s : BitVec 12) (limm : Word)
  | ccbc (b c : Reg) (q : BitVec 5) (limm : Word)
  | ccbu6 (b : Reg) (u : BitVec 6) (q : BitVec 5) (limm : Word)
deriving DecidableEq, Repr

/-- The five formats of MOV (R290): B is the destination only. -/
inductive MovForm where
  | bc (f : Bool) (b c : Reg) (limm : Word)
  | bu6 (f : Bool) (b : Reg) (u : BitVec 6)
  | bs12 (f : Bool) (b : Reg) (s : BitVec 12)
  | ccbc (f : Bool) (b c : Reg) (q : BitVec 5) (limm : Word)
  | ccbu6 (f : Bool) (b : Reg) (u : BitVec 6) (q : BitVec 5)
deriving DecidableEq, Repr

/-- The two formats of a single-operand instruction (R142). -/
inductive SopForm where
  | bc (f : Bool) (b c : Reg) (limm : Word)
  | bu6 (f : Bool) (b : Reg) (u : BitVec 6)
deriving DecidableEq, Repr

/-- The five formats with one source and nothing else (J, JL: R400, R405; FLAG: R492). -/
inductive JForm where
  | c (c : Reg) (limm : Word)
  | u6 (u : BitVec 6)
  | s12 (s : BitVec 12)
  | ccc (c : Reg) (q : BitVec 5) (limm : Word)
  | ccu6 (u : BitVec 6) (q : BitVec 5)
deriving DecidableEq, Repr

/-- The same for J.D and JL.D, which have no long immediate (R372). -/
inductive JDForm where
  | c (c : Reg)
  | u6 (u : BitVec 6)
  | s12 (s : BitVec 12)
  | ccc (c : Reg) (q : BitVec 5)
  | ccu6 (u : BitVec 6) (q : BitVec 5)
deriving DecidableEq, Repr

/-- `Jcc.F [ILINKn]` (R401). -/
inductive JFForm where
  | c (link2 d : Bool)
  | ccc (link2 d : Bool) (q : BitVec 5)
deriving DecidableEq, Repr

/-- The two formats of LP (R420). -/
inductive LpForm where
  | s13 (s : BitVec 12)
  | ccu7 (u : BitVec 6) (q : BitVec 5)
deriving DecidableEq, Repr

/-- The two formats of LR (R490). -/
inductive LrForm where
  | bc (b c : Reg) (limm : Word)
  | bs12 (b : Reg) (s : BitVec 12)
deriving DecidableEq, Repr

/-- The two formats of SR (R491). -/
inductive SrForm where
  | bc (b c : Reg) (limm : Word)
  | bs12 (b : Reg) (s : BitVec 12) (limm : Word)
deriving DecidableEq, Repr

/-- The two formats of a 32-bit load (R144, R155). -/
inductive LdForm where
  | rr (a b c : Reg) (aa : BitVec 2) (di : Bool) (limm : Word)
  | s9 (a b : Reg) (s : BitVec 9) (aa : BitVec 2) (di : Bool) (limm : Word)
deriving DecidableEq, Repr

/-- The two formats of compare-and-branch (R152). -/
inductive BrForm where
  | bcs9 (b c : Reg) (s : BitVec 8) (n : Bool) (limm : Word)
  | bu6s9 (b : Reg) (u : BitVec 6) (s : BitVec 8) (n : Bool) (limm : Word)
deriving DecidableEq, Repr

end Sys2Proof
end

