-- ==== Sys2Proof/Syntax.lean ====
section
/-! DEFINITION. The instructions. Every row of spec/opcode_table.json is one constructor, applied, where the constructor takes a
format, to one format of Sys2Proof/Forms.lean; each constructor's docstring lists its rows. Field names are those of
Sys2Proof/Forms.lean; `a`, `b`, `c` of a 16-bit instruction are 3-bit fields (10_state.md R23). -/

namespace Sys2Proof

/-- The instructions of the ARC 600. -/
inductive Instr where
  /-- `.abc`: `ADD<.f> a,b,c` `00100bbb00000000FBBBCCCCCCAAAAAA`;
  `.abu6`: `ADD<.f> a,b,u6` `00100bbb01000000FBBBuuuuuuAAAAAA`;
  `.bbs12`: `ADD<.f> b,b,s12` `00100bbb10000000FBBBssssssSSSSSS`;
  `.ccbbc`: `ADD<.cc><.f> b,b,c` `00100bbb11000000FBBBCCCCCC0QQQQQ`;
  `.ccbbu6`: `ADD<.cc><.f> b,b,u6` `00100bbb11000000FBBBuuuuuu1QQQQQ` (R221) -/
  | add (form : GenForm)
  /-- `.abc`: `ADC<.f> a,b,c` `00100bbb00000001FBBBCCCCCCAAAAAA`;
  `.abu6`: `ADC<.f> a,b,u6` `00100bbb01000001FBBBuuuuuuAAAAAA`;
  `.bbs12`: `ADC<.f> b,b,s12` `00100bbb10000001FBBBssssssSSSSSS`;
  `.ccbbc`: `ADC<.cc><.f> b,b,c` `00100bbb11000001FBBBCCCCCC0QQQQQ`;
  `.ccbbu6`: `ADC<.cc><.f> b,b,u6` `00100bbb11000001FBBBuuuuuu1QQQQQ` (R222) -/
  | adc (form : GenForm)
  /-- `.abc`: `SUB<.f> a,b,c` `00100bbb00000010FBBBCCCCCCAAAAAA`;
  `.abu6`: `SUB<.f> a,b,u6` `00100bbb01000010FBBBuuuuuuAAAAAA`;
  `.bbs12`: `SUB<.f> b,b,s12` `00100bbb10000010FBBBssssssSSSSSS`;
  `.ccbbc`: `SUB<.cc><.f> b,b,c` `00100bbb11000010FBBBCCCCCC0QQQQQ`;
  `.ccbbu6`: `SUB<.cc><.f> b,b,u6` `00100bbb11000010FBBBuuuuuu1QQQQQ` (R223) -/
  | sub (form : GenForm)
  /-- `.abc`: `SBC<.f> a,b,c` `00100bbb00000011FBBBCCCCCCAAAAAA`;
  `.abu6`: `SBC<.f> a,b,u6` `00100bbb01000011FBBBuuuuuuAAAAAA`;
  `.bbs12`: `SBC<.f> b,b,s12` `00100bbb10000011FBBBssssssSSSSSS`;
  `.ccbbc`: `SBC<.cc><.f> b,b,c` `00100bbb11000011FBBBCCCCCC0QQQQQ`;
  `.ccbbu6`: `SBC<.cc><.f> b,b,u6` `00100bbb11000011FBBBuuuuuu1QQQQQ` (R224) -/
  | sbc (form : GenForm)
  /-- `.abc`: `AND<.f> a,b,c` `00100bbb00000100FBBBCCCCCCAAAAAA`;
  `.abu6`: `AND<.f> a,b,u6` `00100bbb01000100FBBBuuuuuuAAAAAA`;
  `.bbs12`: `AND<.f> b,b,s12` `00100bbb10000100FBBBssssssSSSSSS`;
  `.ccbbc`: `AND<.cc><.f> b,b,c` `00100bbb11000100FBBBCCCCCC0QQQQQ`;
  `.ccbbu6`: `AND<.cc><.f> b,b,u6` `00100bbb11000100FBBBuuuuuu1QQQQQ` (R281) -/
  | and (form : GenForm)
  /-- `.abc`: `OR<.f> a,b,c` `00100bbb00000101FBBBCCCCCCAAAAAA`;
  `.abu6`: `OR<.f> a,b,u6` `00100bbb01000101FBBBuuuuuuAAAAAA`;
  `.bbs12`: `OR<.f> b,b,s12` `00100bbb10000101FBBBssssssSSSSSS`;
  `.ccbbc`: `OR<.cc><.f> b,b,c` `00100bbb11000101FBBBCCCCCC0QQQQQ`;
  `.ccbbu6`: `OR<.cc><.f> b,b,u6` `00100bbb11000101FBBBuuuuuu1QQQQQ` (R282) -/
  | or (form : GenForm)
  /-- `.abc`: `BIC<.f> a,b,c` `00100bbb00000110FBBBCCCCCCAAAAAA`;
  `.abu6`: `BIC<.f> a,b,u6` `00100bbb01000110FBBBuuuuuuAAAAAA`;
  `.bbs12`: `BIC<.f> b,b,s12` `00100bbb10000110FBBBssssssSSSSSS`;
  `.ccbbc`: `BIC<.cc><.f> b,b,c` `00100bbb11000110FBBBCCCCCC0QQQQQ`;
  `.ccbbu6`: `BIC<.cc><.f> b,b,u6` `00100bbb11000110FBBBuuuuuu1QQQQQ` (R283) -/
  | bic (form : GenForm)
  /-- `.abc`: `XOR<.f> a,b,c` `00100bbb00000111FBBBCCCCCCAAAAAA`;
  `.abu6`: `XOR<.f> a,b,u6` `00100bbb01000111FBBBuuuuuuAAAAAA`;
  `.bbs12`: `XOR<.f> b,b,s12` `00100bbb10000111FBBBssssssSSSSSS`;
  `.ccbbc`: `XOR<.cc><.f> b,b,c` `00100bbb11000111FBBBCCCCCC0QQQQQ`;
  `.ccbbu6`: `XOR<.cc><.f> b,b,u6` `00100bbb11000111FBBBuuuuuu1QQQQQ` (R284) -/
  | xor (form : GenForm)
  /-- `.abc`: `MAX<.f> a,b,c` `00100bbb00001000FBBBCCCCCCAAAAAA`;
  `.abu6`: `MAX<.f> a,b,u6` `00100bbb01001000FBBBuuuuuuAAAAAA`;
  `.bbs12`: `MAX<.f> b,b,s12` `00100bbb10001000FBBBssssssSSSSSS`;
  `.ccbbc`: `MAX<.cc><.f> b,b,c` `00100bbb11001000FBBBCCCCCC0QQQQQ`;
  `.ccbbu6`: `MAX<.cc><.f> b,b,u6` `00100bbb11001000FBBBuuuuuu1QQQQQ` (R240) -/
  | max (form : GenForm)
  /-- `.abc`: `MIN<.f> a,b,c` `00100bbb00001001FBBBCCCCCCAAAAAA`;
  `.abu6`: `MIN<.f> a,b,u6` `00100bbb01001001FBBBuuuuuuAAAAAA`;
  `.bbs12`: `MIN<.f> b,b,s12` `00100bbb10001001FBBBssssssSSSSSS`;
  `.ccbbc`: `MIN<.cc><.f> b,b,c` `00100bbb11001001FBBBCCCCCC0QQQQQ`;
  `.ccbbu6`: `MIN<.cc><.f> b,b,u6` `00100bbb11001001FBBBuuuuuu1QQQQQ` (R241) -/
  | min (form : GenForm)
  /-- `.abc`: `RSUB<.f> a,b,c` `00100bbb00001110FBBBCCCCCCAAAAAA`;
  `.abu6`: `RSUB<.f> a,b,u6` `00100bbb01001110FBBBuuuuuuAAAAAA`;
  `.bbs12`: `RSUB<.f> b,b,s12` `00100bbb10001110FBBBssssssSSSSSS`;
  `.ccbbc`: `RSUB<.cc><.f> b,b,c` `00100bbb11001110FBBBCCCCCC0QQQQQ`;
  `.ccbbu6`: `RSUB<.cc><.f> b,b,u6` `00100bbb11001110FBBBuuuuuu1QQQQQ` (R225) -/
  | rsub (form : GenForm)
  /-- `.abc`: `BSET<.f> a,b,c` `00100bbb00001111FBBBCCCCCCAAAAAA`;
  `.abu6`: `BSET<.f> a,b,u6` `00100bbb01001111FBBBuuuuuuAAAAAA`;
  `.bbs12`: `BSET<.f> b,b,s12` `00100bbb10001111FBBBssssssSSSSSS`;
  `.ccbbc`: `BSET<.cc><.f> b,b,c` `00100bbb11001111FBBBCCCCCC0QQQQQ`;
  `.ccbbu6`: `BSET<.cc><.f> b,b,u6` `00100bbb11001111FBBBuuuuuu1QQQQQ` (R300) -/
  | bset (form : GenForm)
  /-- `.abc`: `BCLR<.f> a,b,c` `00100bbb00010000FBBBCCCCCCAAAAAA`;
  `.abu6`: `BCLR<.f> a,b,u6` `00100bbb01010000FBBBuuuuuuAAAAAA`;
  `.bbs12`: `BCLR<.f> b,b,s12` `00100bbb10010000FBBBssssssSSSSSS`;
  `.ccbbc`: `BCLR<.cc><.f> b,b,c` `00100bbb11010000FBBBCCCCCC0QQQQQ`;
  `.ccbbu6`: `BCLR<.cc><.f> b,b,u6` `00100bbb11010000FBBBuuuuuu1QQQQQ` (R301) -/
  | bclr (form : GenForm)
  /-- `.abc`: `BXOR<.f> a,b,c` `00100bbb00010010FBBBCCCCCCAAAAAA`;
  `.abu6`: `BXOR<.f> a,b,u6` `00100bbb01010010FBBBuuuuuuAAAAAA`;
  `.bbs12`: `BXOR<.f> b,b,s12` `00100bbb10010010FBBBssssssSSSSSS`;
  `.ccbbc`: `BXOR<.cc><.f> b,b,c` `00100bbb11010010FBBBCCCCCC0QQQQQ`;
  `.ccbbu6`: `BXOR<.cc><.f> b,b,u6` `00100bbb11010010FBBBuuuuuu1QQQQQ` (R303) -/
  | bxor (form : GenForm)
  /-- `.abc`: `BMSK<.f> a,b,c` `00100bbb00010011FBBBCCCCCCAAAAAA`;
  `.abu6`: `BMSK<.f> a,b,u6` `00100bbb01010011FBBBuuuuuuAAAAAA`;
  `.bbs12`: `BMSK<.f> b,b,s12` `00100bbb10010011FBBBssssssSSSSSS`;
  `.ccbbc`: `BMSK<.cc><.f> b,b,c` `00100bbb11010011FBBBCCCCCC0QQQQQ`;
  `.ccbbu6`: `BMSK<.cc><.f> b,b,u6` `00100bbb11010011FBBBuuuuuu1QQQQQ` (R304) -/
  | bmsk (form : GenForm)
  /-- `.abc`: `ADD1<.f> a,b,c` `00100bbb00010100FBBBCCCCCCAAAAAA`;
  `.abu6`: `ADD1<.f> a,b,u6` `00100bbb01010100FBBBuuuuuuAAAAAA`;
  `.bbs12`: `ADD1<.f> b,b,s12` `00100bbb10010100FBBBssssssSSSSSS`;
  `.ccbbc`: `ADD1<.cc><.f> b,b,c` `00100bbb11010100FBBBCCCCCC0QQQQQ`;
  `.ccbbu6`: `ADD1<.cc><.f> b,b,u6` `00100bbb11010100FBBBuuuuuu1QQQQQ` (R230) -/
  | add1 (form : GenForm)
  /-- `.abc`: `ADD2<.f> a,b,c` `00100bbb00010101FBBBCCCCCCAAAAAA`;
  `.abu6`: `ADD2<.f> a,b,u6` `00100bbb01010101FBBBuuuuuuAAAAAA`;
  `.bbs12`: `ADD2<.f> b,b,s12` `00100bbb10010101FBBBssssssSSSSSS`;
  `.ccbbc`: `ADD2<.cc><.f> b,b,c` `00100bbb11010101FBBBCCCCCC0QQQQQ`;
  `.ccbbu6`: `ADD2<.cc><.f> b,b,u6` `00100bbb11010101FBBBuuuuuu1QQQQQ` (R231) -/
  | add2 (form : GenForm)
  /-- `.abc`: `ADD3<.f> a,b,c` `00100bbb00010110FBBBCCCCCCAAAAAA`;
  `.abu6`: `ADD3<.f> a,b,u6` `00100bbb01010110FBBBuuuuuuAAAAAA`;
  `.bbs12`: `ADD3<.f> b,b,s12` `00100bbb10010110FBBBssssssSSSSSS`;
  `.ccbbc`: `ADD3<.cc><.f> b,b,c` `00100bbb11010110FBBBCCCCCC0QQQQQ`;
  `.ccbbu6`: `ADD3<.cc><.f> b,b,u6` `00100bbb11010110FBBBuuuuuu1QQQQQ` (R232) -/
  | add3 (form : GenForm)
  /-- `.abc`: `SUB1<.f> a,b,c` `00100bbb00010111FBBBCCCCCCAAAAAA`;
  `.abu6`: `SUB1<.f> a,b,u6` `00100bbb01010111FBBBuuuuuuAAAAAA`;
  `.bbs12`: `SUB1<.f> b,b,s12` `00100bbb10010111FBBBssssssSSSSSS`;
  `.ccbbc`: `SUB1<.cc><.f> b,b,c` `00100bbb11010111FBBBCCCCCC0QQQQQ`;
  `.ccbbu6`: `SUB1<.cc><.f> b,b,u6` `00100bbb11010111FBBBuuuuuu1QQQQQ` (R233) -/
  | sub1 (form : GenForm)
  /-- `.abc`: `SUB2<.f> a,b,c` `00100bbb00011000FBBBCCCCCCAAAAAA`;
  `.abu6`: `SUB2<.f> a,b,u6` `00100bbb01011000FBBBuuuuuuAAAAAA`;
  `.bbs12`: `SUB2<.f> b,b,s12` `00100bbb10011000FBBBssssssSSSSSS`;
  `.ccbbc`: `SUB2<.cc><.f> b,b,c` `00100bbb11011000FBBBCCCCCC0QQQQQ`;
  `.ccbbu6`: `SUB2<.cc><.f> b,b,u6` `00100bbb11011000FBBBuuuuuu1QQQQQ` (R234) -/
  | sub2 (form : GenForm)
  /-- `.abc`: `SUB3<.f> a,b,c` `00100bbb00011001FBBBCCCCCCAAAAAA`;
  `.abu6`: `SUB3<.f> a,b,u6` `00100bbb01011001FBBBuuuuuuAAAAAA`;
  `.bbs12`: `SUB3<.f> b,b,s12` `00100bbb10011001FBBBssssssSSSSSS`;
  `.ccbbc`: `SUB3<.cc><.f> b,b,c` `00100bbb11011001FBBBCCCCCC0QQQQQ`;
  `.ccbbu6`: `SUB3<.cc><.f> b,b,u6` `00100bbb11011001FBBBuuuuuu1QQQQQ` (R235) -/
  | sub3 (form : GenForm)
  /-- `.bc`: `MOV<.f> b,c` `00100bbb00001010FBBBCCCCCCRRRRRR`;
  `.bu6`: `MOV<.f> b,u6` `00100bbb01001010FBBBuuuuuuRRRRRR`;
  `.bs12`: `MOV<.f> b,s12` `00100bbb10001010FBBBssssssSSSSSS`;
  `.ccbc`: `MOV<.cc><.f> b,c` `00100bbb11001010FBBBCCCCCC0QQQQQ`;
  `.ccbu6`: `MOV<.cc><.f> b,u6` `00100bbb11001010FBBBuuuuuu1QQQQQ` (R290) -/
  | mov (form : MovForm)
  /-- `NOP` `00100110010010100111000000000000` (R496) -/
  | nop
  /-- `.bc`: `TST b,c` `00100bbb000010111BBBCCCCCCRRRRRR`;
  `.bu6`: `TST b,u6` `00100bbb010010111BBBuuuuuuRRRRRR`;
  `.bs12`: `TST b,s12` `00100bbb100010111BBBssssssSSSSSS`;
  `.ccbc`: `TST<.cc> b,c` `00100bbb110010111BBBCCCCCC0QQQQQ`;
  `.ccbu6`: `TST<.cc> b,u6` `00100bbb110010111BBBuuuuuu1QQQQQ` (R286) -/
  | tst (form : CmpForm)
  /-- `.bc`: `CMP b,c` `00100bbb000011001BBBCCCCCCRRRRRR`;
  `.bu6`: `CMP b,u6` `00100bbb010011001BBBuuuuuuRRRRRR`;
  `.bs12`: `CMP b,s12` `00100bbb100011001BBBssssssSSSSSS`;
  `.ccbc`: `CMP<.cc> b,c` `00100bbb110011001BBBCCCCCC0QQQQQ`;
  `.ccbu6`: `CMP<.cc> b,u6` `00100bbb110011001BBBuuuuuu1QQQQQ` (R226) -/
  | cmp (form : CmpForm)
  /-- `.bc`: `RCMP b,c` `00100bbb000011011BBBCCCCCCRRRRRR`;
  `.bu6`: `RCMP b,u6` `00100bbb010011011BBBuuuuuuRRRRRR`;
  `.bs12`: `RCMP b,s12` `00100bbb100011011BBBssssssSSSSSS`;
  `.ccbc`: `RCMP<.cc> b,c` `00100bbb110011011BBBCCCCCC0QQQQQ`;
  `.ccbu6`: `RCMP<.cc> b,u6` `00100bbb110011011BBBuuuuuu1QQQQQ` (R227) -/
  | rcmp (form : CmpForm)
  /-- `.bc`: `BTST b,c` `00100bbb000100011BBBCCCCCCRRRRRR`;
  `.bu6`: `BTST b,u6` `00100bbb010100011BBBuuuuuuRRRRRR`;
  `.bs12`: `BTST b,s12` `00100bbb100100011BBBssssssSSSSSS`;
  `.ccbc`: `BTST<.cc> b,c` `00100bbb110100011BBBCCCCCC0QQQQQ`;
  `.ccbu6`: `BTST<.cc> b,u6` `00100bbb110100011BBBuuuuuu1QQQQQ` (R302) -/
  | btst (form : CmpForm)
  /-- `.c`: `J [c]` `00100RRR001000000RRRCCCCCCRRRRRR`;
  `.u6`: `J u6` `00100RRR011000000RRRuuuuuuRRRRRR`;
  `.s12`: `J s12` `00100RRR101000000RRRssssssSSSSSS`;
  `.ccc`: `Jcc [c]` `00100RRR111000000RRRCCCCCC0QQQQQ`;
  `.ccu6`: `Jcc u6` `00100RRR111000000RRRuuuuuu1QQQQQ` (R400) -/
  | j (form : JForm)
  /-- `.c`: `J.D [c]` `00100RRR001000010RRRCCCCCCRRRRRR`;
  `.u6`: `J.D u6` `00100RRR011000010RRRuuuuuuRRRRRR`;
  `.s12`: `J.D s12` `00100RRR101000010RRRssssssSSSSSS`;
  `.ccc`: `Jcc.D [c]` `00100RRR111000010RRRCCCCCC0QQQQQ`;
  `.ccu6`: `Jcc.D u6` `00100RRR111000010RRRuuuuuu1QQQQQ` (R400) -/
  | j_d (form : JDForm)
  /-- `.c`: `JL [c]` `00100RRR001000100RRRCCCCCCRRRRRR`;
  `.u6`: `JL u6` `00100RRR011000100RRRuuuuuuRRRRRR`;
  `.s12`: `JL s12` `00100RRR101000100RRRssssssSSSSSS`;
  `.ccc`: `JLcc [c]` `00100RRR111000100RRRCCCCCC0QQQQQ`;
  `.ccu6`: `JLcc u6` `00100RRR111000100RRRuuuuuu1QQQQQ` (R405) -/
  | jl (form : JForm)
  /-- `.c`: `JL.D [c]` `00100RRR001000110RRRCCCCCCRRRRRR`;
  `.u6`: `JL.D u6` `00100RRR011000110RRRuuuuuuRRRRRR`;
  `.s12`: `JL.D s12` `00100RRR101000110RRRssssssSSSSSS`;
  `.ccc`: `JLcc.D [c]` `00100RRR111000110RRRCCCCCC0QQQQQ`;
  `.ccu6`: `JLcc.D u6` `00100RRR111000110RRRuuuuuu1QQQQQ` (R405) -/
  | jl_d (form : JDForm)
  /-- `.c`: `J.F [c]` `00100RRR001000001RRRCCCCCCRRRRRR`;
  `.ccc`: `Jcc.F [c]` `00100RRR111000001RRRCCCCCC0QQQQQ` (R401) -/
  | j_f (form : JFForm)
  /-- `.s13`: `LP s13` `00100RRR101010000RRRssssssSSSSSS`;
  `.ccu7`: `LP<cc> u7` `00100RRR111010000RRRuuuuuu1QQQQQ` (R420) -/
  | lp (form : LpForm)
  /-- `.c`: `FLAG c` `00100RRR00101001RRRRCCCCCCRRRRRR`;
  `.u6`: `FLAG u6` `00100RRR01101001RRRRuuuuuuRRRRRR`;
  `.s12`: `FLAG s12` `00100RRR10101001RRRRssssssSSSSSS`;
  `.ccc`: `FLAG<.cc> c` `00100RRR11101001RRRRCCCCCC0QQQQQ`;
  `.ccu6`: `FLAG<.cc> u6` `00100RRR11101001RRRRuuuuuu1QQQQQ` (R492) -/
  | flag (form : JForm)
  /-- `.bc`: `LR b,[c]` `00100bbb00101010RBBBCCCCCCRRRRRR`;
  `.bs12`: `LR b,[s12]` `00100bbb10101010RBBBssssssSSSSSS` (R490) -/
  | lr (form : LrForm)
  /-- `.bc`: `SR b,[c]` `00100bbb00101011RBBBCCCCCCRRRRRR`;
  `.bs12`: `SR b,[s12]` `00100bbb10101011RBBBssssssSSSSSS` (R491) -/
  | sr (form : SrForm)
  /-- `.bc`: `ASL<.f> b,c` `00100bbb00101111FBBBCCCCCC000000`;
  `.bu6`: `ASL<.f> b,u6` `00100bbb01101111FBBBuuuuuu000000` (R331) -/
  | asl (form : SopForm)
  /-- `.bc`: `ASR<.f> b,c` `00100bbb00101111FBBBCCCCCC000001`;
  `.bu6`: `ASR<.f> b,u6` `00100bbb01101111FBBBuuuuuu000001` (R332) -/
  | asr (form : SopForm)
  /-- `.bc`: `LSR<.f> b,c` `00100bbb00101111FBBBCCCCCC000010`;
  `.bu6`: `LSR<.f> b,u6` `00100bbb01101111FBBBuuuuuu000010` (R333) -/
  | lsr (form : SopForm)
  /-- `.bc`: `ROR<.f> b,c` `00100bbb00101111FBBBCCCCCC000011`;
  `.bu6`: `ROR<.f> b,u6` `00100bbb01101111FBBBuuuuuu000011` (R334) -/
  | ror (form : SopForm)
  /-- `.bc`: `RRC<.f> b,c` `00100bbb00101111FBBBCCCCCC000100`;
  `.bu6`: `RRC<.f> b,u6` `00100bbb01101111FBBBuuuuuu000100` (R335) -/
  | rrc (form : SopForm)
  /-- `.bc`: `SEXB<.f> b,c` `00100bbb00101111FBBBCCCCCC000101`;
  `.bu6`: `SEXB<.f> b,u6` `00100bbb01101111FBBBuuuuuu000101` (R310) -/
  | sexb (form : SopForm)
  /-- `.bc`: `SEXW<.f> b,c` `00100bbb00101111FBBBCCCCCC000110`;
  `.bu6`: `SEXW<.f> b,u6` `00100bbb01101111FBBBuuuuuu000110` (R311) -/
  | sexw (form : SopForm)
  /-- `.bc`: `EXTB<.f> b,c` `00100bbb00101111FBBBCCCCCC000111`;
  `.bu6`: `EXTB<.f> b,u6` `00100bbb01101111FBBBuuuuuu000111` (R312) -/
  | extb (form : SopForm)
  /-- `.bc`: `EXTW<.f> b,c` `00100bbb00101111FBBBCCCCCC001000`;
  `.bu6`: `EXTW<.f> b,u6` `00100bbb01101111FBBBuuuuuu001000` (R313) -/
  | extw (form : SopForm)
  /-- `.bc`: `ABS<.f> b,c` `00100bbb00101111FBBBCCCCCC001001`;
  `.bu6`: `ABS<.f> b,u6` `00100bbb01101111FBBBuuuuuu001001` (R245) -/
  | abs (form : SopForm)
  /-- `.bc`: `NOT<.f> b,c` `00100bbb00101111FBBBCCCCCC001010`;
  `.bu6`: `NOT<.f> b,u6` `00100bbb01101111FBBBuuuuuu001010` (R285) -/
  | not (form : SopForm)
  /-- `.bc`: `RLC<.f> b,c` `00100bbb00101111FBBBCCCCCC001011`;
  `.bu6`: `RLC<.f> b,u6` `00100bbb01101111FBBBuuuuuu001011` (R336) -/
  | rlc (form : SopForm)
  /-- `SLEEP` `0010000101101111R000RRRRRR111111` (R493) -/
  | sleep
  /-- `SWI` `0010001001101111R000RRRRRR111111` (R494) -/
  | swi
  /-- `.rr`: `LD<.x><.aa><.di> a,[b,c]` `00100bbbaa11000XDBBBCCCCCCAAAAAA`;
  `.s9`: `LD<.x><.aa><.di> a,[b,s9]` `00010bbbssssssssSBBBDaa00XAAAAAA` (R440) -/
  | ld (form : LdForm)
  /-- `.rr`: `LDB<.x><.aa><.di> a,[b,c]` `00100bbbaa11001XDBBBCCCCCCAAAAAA`;
  `.s9`: `LDB<.x><.aa><.di> a,[b,s9]` `00010bbbssssssssSBBBDaa01XAAAAAA` (R440) -/
  | ldb (x : Bool) (form : LdForm)
  /-- `.rr`: `LDW<.x><.aa><.di> a,[b,c]` `00100bbbaa11010XDBBBCCCCCCAAAAAA`;
  `.s9`: `LDW<.x><.aa><.di> a,[b,s9]` `00010bbbssssssssSBBBDaa10XAAAAAA` (R440) -/
  | ldw (x : Bool) (form : LdForm)
  /-- `.abc`: `ASL<.f> a,b,c` `00101bbb00000000FBBBCCCCCCAAAAAA`;
  `.abu6`: `ASL<.f> a,b,u6` `00101bbb01000000FBBBuuuuuuAAAAAA`;
  `.bbs12`: `ASL<.f> b,b,s12` `00101bbb10000000FBBBssssssSSSSSS`;
  `.ccbbc`: `ASL<.cc><.f> b,b,c` `00101bbb11000000FBBBCCCCCC0QQQQQ`;
  `.ccbbu6`: `ASL<.cc><.f> b,b,u6` `00101bbb11000000FBBBuuuuuu1QQQQQ` (R340) -/
  | asl_multi (form : GenForm)
  /-- `.abc`: `LSR<.f> a,b,c` `00101bbb00000001FBBBCCCCCCAAAAAA`;
  `.abu6`: `LSR<.f> a,b,u6` `00101bbb01000001FBBBuuuuuuAAAAAA`;
  `.bbs12`: `LSR<.f> b,b,s12` `00101bbb10000001FBBBssssssSSSSSS`;
  `.ccbbc`: `LSR<.cc><.f> b,b,c` `00101bbb11000001FBBBCCCCCC0QQQQQ`;
  `.ccbbu6`: `LSR<.cc><.f> b,b,u6` `00101bbb11000001FBBBuuuuuu1QQQQQ` (R341) -/
  | lsr_multi (form : GenForm)
  /-- `.abc`: `ASR<.f> a,b,c` `00101bbb00000010FBBBCCCCCCAAAAAA`;
  `.abu6`: `ASR<.f> a,b,u6` `00101bbb01000010FBBBuuuuuuAAAAAA`;
  `.bbs12`: `ASR<.f> b,b,s12` `00101bbb10000010FBBBssssssSSSSSS`;
  `.ccbbc`: `ASR<.cc><.f> b,b,c` `00101bbb11000010FBBBCCCCCC0QQQQQ`;
  `.ccbbu6`: `ASR<.cc><.f> b,b,u6` `00101bbb11000010FBBBuuuuuu1QQQQQ` (R342) -/
  | asr_multi (form : GenForm)
  /-- `.abc`: `ROR<.f> a,b,c` `00101bbb00000011FBBBCCCCCCAAAAAA`;
  `.abu6`: `ROR<.f> a,b,u6` `00101bbb01000011FBBBuuuuuuAAAAAA`;
  `.bbs12`: `ROR<.f> b,b,s12` `00101bbb10000011FBBBssssssSSSSSS`;
  `.ccbbc`: `ROR<.cc><.f> b,b,c` `00101bbb11000011FBBBCCCCCC0QQQQQ`;
  `.ccbbu6`: `ROR<.cc><.f> b,b,u6` `00101bbb11000011FBBBuuuuuu1QQQQQ` (R343) -/
  | ror_multi (form : GenForm)
  /-- `.bc`: `MUL64 <0,>b,c` `00101bbb00000100RBBBCCCCCCRRRRRR`;
  `.bu6`: `MUL64 <0,>b,u6` `00101bbb01000100RBBBuuuuuuRRRRRR`;
  `.bs12`: `MUL64 <0,>b,s12` `00101bbb10000100RBBBssssssSSSSSS`;
  `.ccbc`: `MUL64<.cc> <0,>b,c` `00101bbb11000100RBBBCCCCCC0QQQQQ`;
  `.ccbu6`: `MUL64<.cc> <0,>b,u6` `00101bbb11000100RBBBuuuuuu1QQQQQ` (R540) -/
  | mul64 (form : CmpForm)
  /-- `.bc`: `MULU64 <0,>b,c` `00101bbb00000101RBBBCCCCCCRRRRRR`;
  `.bu6`: `MULU64 <0,>b,u6` `00101bbb01000101RBBBuuuuuuRRRRRR`;
  `.bs12`: `MULU64 <0,>b,s12` `00101bbb10000101RBBBssssssSSSSSS`;
  `.ccbc`: `MULU64<.cc> <0,>b,c` `00101bbb11000101RBBBCCCCCC0QQQQQ`;
  `.ccbu6`: `MULU64<.cc> <0,>b,u6` `00101bbb11000101RBBBuuuuuu1QQQQQ` (R541) -/
  | mulu64 (form : CmpForm)
  /-- `.bc`: `SWAP<.f> b,c` `00101bbb00101111FBBBCCCCCC000000`;
  `.bu6`: `SWAP<.f> b,u6` `00101bbb01101111FBBBuuuuuu000000` (R545) -/
  | swap (form : SopForm)
  /-- `.bc`: `NORM<.f> b,c` `00101bbb00101111FBBBCCCCCC000001`;
  `.bu6`: `NORM<.f> b,u6` `00101bbb01101111FBBBuuuuuu000001` (R546) -/
  | norm (form : SopForm)
  /-- `.bc`: `NORMW<.f> b,c` `00101bbb00101111FBBBCCCCCC001000`;
  `.bu6`: `NORMW<.f> b,u6` `00101bbb01101111FBBBuuuuuu001000` (R547) -/
  | normw (form : SopForm)
  /-- `B<cc><.d> s21` `00000ssssssssss0SSSSSSSSSSNQQQQQ` (R380) -/
  | bcc (s : BitVec 20) (n : Bool) (q : BitVec 5)
  /-- `B<.d> s25` `00000ssssssssss1SSSSSSSSSSNRTTTT` (R381) -/
  | b_s25 (s : BitVec 24) (n : Bool)
  /-- `BL<cc><.d> s21` `00001sssssssss00SSSSSSSSSSNQQQQQ` (R385) -/
  | blcc (s : BitVec 19) (n : Bool) (q : BitVec 5)
  /-- `BL<.d> s25` `00001sssssssss10SSSSSSSSSSNRTTTT` (R386) -/
  | bl (s : BitVec 23) (n : Bool)
  /-- `.bcs9`: `BREQ<.d> b,c,s9` `00001bbbsssssss1SBBBCCCCCCN00000`;
  `.bu6s9`: `BREQ<.d> b,u6,s9` `00001bbbsssssss1SBBBuuuuuuN10000` (R390) -/
  | breq (form : BrForm)
  /-- `.bcs9`: `BRNE<.d> b,c,s9` `00001bbbsssssss1SBBBCCCCCCN00001`;
  `.bu6s9`: `BRNE<.d> b,u6,s9` `00001bbbsssssss1SBBBuuuuuuN10001` (R390) -/
  | brne (form : BrForm)
  /-- `.bcs9`: `BRLT<.d> b,c,s9` `00001bbbsssssss1SBBBCCCCCCN00010`;
  `.bu6s9`: `BRLT<.d> b,u6,s9` `00001bbbsssssss1SBBBuuuuuuN10010` (R390) -/
  | brlt (form : BrForm)
  /-- `.bcs9`: `BRGE<.d> b,c,s9` `00001bbbsssssss1SBBBCCCCCCN00011`;
  `.bu6s9`: `BRGE<.d> b,u6,s9` `00001bbbsssssss1SBBBuuuuuuN10011` (R390) -/
  | brge (form : BrForm)
  /-- `.bcs9`: `BRLO<.d> b,c,s9` `00001bbbsssssss1SBBBCCCCCCN00100`;
  `.bu6s9`: `BRLO<.d> b,u6,s9` `00001bbbsssssss1SBBBuuuuuuN10100` (R390) -/
  | brlo (form : BrForm)
  /-- `.bcs9`: `BRHS<.d> b,c,s9` `00001bbbsssssss1SBBBCCCCCCN00101`;
  `.bu6s9`: `BRHS<.d> b,u6,s9` `00001bbbsssssss1SBBBuuuuuuN10101` (R390) -/
  | brhs (form : BrForm)
  /-- `.bcs9`: `BBIT0<.d> b,c,s9` `00001bbbsssssss1SBBBCCCCCCN01110`;
  `.bu6s9`: `BBIT0<.d> b,u6,s9` `00001bbbsssssss1SBBBuuuuuuN11110` (R392) -/
  | bbit0 (form : BrForm)
  /-- `.bcs9`: `BBIT1<.d> b,c,s9` `00001bbbsssssss1SBBBCCCCCCN01111`;
  `.bu6s9`: `BBIT1<.d> b,u6,s9` `00001bbbsssssss1SBBBuuuuuuN11111` (R393) -/
  | bbit1 (form : BrForm)
  /-- `ST<.aa><.di> c,[b,s9]` `00011bbbssssssssSBBBCCCCCCDaa00R` (R460) -/
  | st_cbs9 (c b : Reg) (s : BitVec 9) (aa : BitVec 2) (di : Bool) (limm : Word)
  /-- `STB<.aa><.di> c,[b,s9]` `00011bbbssssssssSBBBCCCCCCDaa01R` (R460) -/
  | stb_cbs9 (c b : Reg) (s : BitVec 9) (aa : BitVec 2) (di : Bool) (limm : Word)
  /-- `STW<.aa><.di> c,[b,s9]` `00011bbbssssssssSBBBCCCCCCDaa10R` (R460) -/
  | stw_cbs9 (c b : Reg) (s : BitVec 9) (aa : BitVec 2) (di : Bool) (limm : Word)
  /-- `LD_S a,[b,c]` `01100bbbccc00aaa` (R450) -/
  | ld_s_abc (a b c : Reg3)
  /-- `LDB_S a,[b,c]` `01100bbbccc01aaa` (R450) -/
  | ldb_s_abc (a b c : Reg3)
  /-- `LDW_S a,[b,c]` `01100bbbccc10aaa` (R450) -/
  | ldw_s_abc (a b c : Reg3)
  /-- `ADD_S a,b,c` `01100bbbccc11aaa` (R221) -/
  | add_s_abc (a b c : Reg3)
  /-- `ADD_S c,b,u3` `01101bbbccc00uuu` (R221) -/
  | add_s_cbu3 (c b : Reg3) (u : BitVec 3)
  /-- `SUB_S c,b,u3` `01101bbbccc01uuu` (R223) -/
  | sub_s_cbu3 (c b : Reg3) (u : BitVec 3)
  /-- `ASL_S c,b,u3` `01101bbbccc10uuu` (R340) -/
  | asl_s_cbu3 (c b : Reg3) (u : BitVec 3)
  /-- `ASR_S c,b,u3` `01101bbbccc11uuu` (R342) -/
  | asr_s_cbu3 (c b : Reg3) (u : BitVec 3)
  /-- `ADD_S b,b,h` `01110bbbhhh00HHH` (R221) -/
  | add_s_bbh (b : Reg3) (h : Reg) (limm : Word)
  /-- `MOV_S b,h` `01110bbbhhh01HHH` (R290) -/
  | mov_s_bh (b : Reg3) (h : Reg) (limm : Word)
  /-- `CMP_S b,h` `01110bbbhhh10HHH` (R226) -/
  | cmp_s_bh (b : Reg3) (h : Reg) (limm : Word)
  /-- `MOV_S h,b` `01110bbbhhh11HHH` (R290) -/
  | mov_s_hb (h : Reg) (b : Reg3)
  /-- `SUB_S b,b,c` `01111bbbccc00010` (R223) -/
  | sub_s_bbc (b c : Reg3)
  /-- `AND_S b,b,c` `01111bbbccc00100` (R281) -/
  | and_s_bbc (b c : Reg3)
  /-- `OR_S b,b,c` `01111bbbccc00101` (R282) -/
  | or_s_bbc (b c : Reg3)
  /-- `BIC_S b,b,c` `01111bbbccc00110` (R283) -/
  | bic_s_bbc (b c : Reg3)
  /-- `XOR_S b,b,c` `01111bbbccc00111` (R284) -/
  | xor_s_bbc (b c : Reg3)
  /-- `TST_S b,c` `01111bbbccc01011` (R286) -/
  | tst_s_bc (b c : Reg3)
  /-- `MUL64_S <0,>b,c` `01111bbbccc01100` (R542) -/
  | mul64_s_bc (b c : Reg3)
  /-- `SEXB_S b,c` `01111bbbccc01101` (R310) -/
  | sexb_s_bc (b c : Reg3)
  /-- `SEXW_S b,c` `01111bbbccc01110` (R311) -/
  | sexw_s_bc (b c : Reg3)
  /-- `EXTB_S b,c` `01111bbbccc01111` (R312) -/
  | extb_s_bc (b c : Reg3)
  /-- `EXTW_S b,c` `01111bbbccc10000` (R313) -/
  | extw_s_bc (b c : Reg3)
  /-- `ABS_S b,c` `01111bbbccc10001` (R245) -/
  | abs_s_bc (b c : Reg3)
  /-- `NOT_S b,c` `01111bbbccc10010` (R285) -/
  | not_s_bc (b c : Reg3)
  /-- `NEG_S b,c` `01111bbbccc10011` (R246) -/
  | neg_s_bc (b c : Reg3)
  /-- `ADD1_S b,b,c` `01111bbbccc10100` (R230) -/
  | add1_s_bbc (b c : Reg3)
  /-- `ADD2_S b,b,c` `01111bbbccc10101` (R231) -/
  | add2_s_bbc (b c : Reg3)
  /-- `ADD3_S b,b,c` `01111bbbccc10110` (R232) -/
  | add3_s_bbc (b c : Reg3)
  /-- `ASL_S b,b,c` `01111bbbccc11000` (R340) -/
  | asl_s_bbc (b c : Reg3)
  /-- `LSR_S b,b,c` `01111bbbccc11001` (R341) -/
  | lsr_s_bbc (b c : Reg3)
  /-- `ASR_S b,b,c` `01111bbbccc11010` (R342) -/
  | asr_s_bbc (b c : Reg3)
  /-- `ASL_S b,c` `01111bbbccc11011` (R331) -/
  | asl_s_bc (b c : Reg3)
  /-- `ASR_S b,c` `01111bbbccc11100` (R332) -/
  | asr_s_bc (b c : Reg3)
  /-- `LSR_S b,c` `01111bbbccc11101` (R333) -/
  | lsr_s_bc (b c : Reg3)
  /-- `BRK_S` `0111111111111111` (R495) -/
  | brk_s
  /-- `J_S [b]` `01111bbb00000000` (R402) -/
  | j_s_b (b : Reg3)
  /-- `J_S.D [b]` `01111bbb00100000` (R402) -/
  | j_s_d_b (b : Reg3)
  /-- `JL_S [b]` `01111bbb01000000` (R406) -/
  | jl_s_b (b : Reg3)
  /-- `JL_S.D [b]` `01111bbb01100000` (R406) -/
  | jl_s_d_b (b : Reg3)
  /-- `SUB_S.NE b,b,b` `01111bbb11000000` (R223) -/
  | sub_s_ne (b : Reg3)
  /-- `NOP_S` `0111100011100000` (R496) -/
  | nop_s
  /-- `JEQ_S [blink]` `0111110011100000` (R402) -/
  | jeq_s_blink
  /-- `JNE_S [blink]` `0111110111100000` (R402) -/
  | jne_s_blink
  /-- `J_S [blink]` `0111111011100000` (R402) -/
  | j_s_blink
  /-- `J_S.D [blink]` `0111111111100000` (R402) -/
  | j_s_d_blink
  /-- `LD_S c,[b,u7]` `10000bbbcccuuuuu` (R451) -/
  | ld_s_cbu7 (c b : Reg3) (u : BitVec 5)
  /-- `LDB_S c,[b,u5]` `10001bbbcccuuuuu` (R451) -/
  | ldb_s_cbu5 (c b : Reg3) (u : BitVec 5)
  /-- `LDW_S c,[b,u6]` `10010bbbcccuuuuu` (R451) -/
  | ldw_s_cbu6 (c b : Reg3) (u : BitVec 5)
  /-- `LDW_S.X c,[b,u6]` `10011bbbcccuuuuu` (R451) -/
  | ldw_s_x_cbu6 (c b : Reg3) (u : BitVec 5)
  /-- `ST_S c,[b,u7]` `10100bbbcccuuuuu` (R461) -/
  | st_s_cbu7 (c b : Reg3) (u : BitVec 5)
  /-- `STB_S c,[b,u5]` `10101bbbcccuuuuu` (R461) -/
  | stb_s_cbu5 (c b : Reg3) (u : BitVec 5)
  /-- `STW_S c,[b,u6]` `10110bbbcccuuuuu` (R461) -/
  | stw_s_cbu6 (c b : Reg3) (u : BitVec 5)
  /-- `ASL_S b,b,u5` `10111bbb000uuuuu` (R340) -/
  | asl_s_bbu5 (b : Reg3) (u : BitVec 5)
  /-- `LSR_S b,b,u5` `10111bbb001uuuuu` (R341) -/
  | lsr_s_bbu5 (b : Reg3) (u : BitVec 5)
  /-- `ASR_S b,b,u5` `10111bbb010uuuuu` (R342) -/
  | asr_s_bbu5 (b : Reg3) (u : BitVec 5)
  /-- `SUB_S b,b,u5` `10111bbb011uuuuu` (R223) -/
  | sub_s_bbu5 (b : Reg3) (u : BitVec 5)
  /-- `BSET_S b,b,u5` `10111bbb100uuuuu` (R300) -/
  | bset_s_bbu5 (b : Reg3) (u : BitVec 5)
  /-- `BCLR_S b,b,u5` `10111bbb101uuuuu` (R301) -/
  | bclr_s_bbu5 (b : Reg3) (u : BitVec 5)
  /-- `BMSK_S b,b,u5` `10111bbb110uuuuu` (R304) -/
  | bmsk_s_bbu5 (b : Reg3) (u : BitVec 5)
  /-- `BTST_S b,u5` `10111bbb111uuuuu` (R302) -/
  | btst_s_bu5 (b : Reg3) (u : BitVec 5)
  /-- `LD_S b,[sp,u7]` `11000bbb000uuuuu` (R452) -/
  | ld_s_bspu7 (b : Reg3) (u : BitVec 5)
  /-- `LDB_S b,[sp,u7]` `11000bbb001uuuuu` (R452) -/
  | ldb_s_bspu7 (b : Reg3) (u : BitVec 5)
  /-- `ST_S b,[sp,u7]` `11000bbb010uuuuu` (R462) -/
  | st_s_bspu7 (b : Reg3) (u : BitVec 5)
  /-- `STB_S b,[sp,u7]` `11000bbb011uuuuu` (R462) -/
  | stb_s_bspu7 (b : Reg3) (u : BitVec 5)
  /-- `ADD_S b,sp,u7` `11000bbb100uuuuu` (R221) -/
  | add_s_bspu7 (b : Reg3) (u : BitVec 5)
  /-- `ADD_S sp,sp,u7` `11000000101uuuuu` (R221) -/
  | add_s_spspu7 (u : BitVec 5)
  /-- `SUB_S sp,sp,u7` `11000001101uuuuu` (R223) -/
  | sub_s_spspu7 (u : BitVec 5)
  /-- `POP_S b` `11000bbb11000001` (R455) -/
  | pop_s_b (b : Reg3)
  /-- `POP_S blink` `11000RRR11010001` (R455) -/
  | pop_s_blink
  /-- `PUSH_S b` `11000bbb11100001` (R463) -/
  | push_s_b (b : Reg3)
  /-- `PUSH_S blink` `11000RRR11110001` (R463) -/
  | push_s_blink
  /-- `LD_S r0,[gp,s11]` `1100100sssssssss` (R453) -/
  | ld_s_r0gp (s : BitVec 9)
  /-- `LDB_S r0,[gp,s9]` `1100101sssssssss` (R453) -/
  | ldb_s_r0gp (s : BitVec 9)
  /-- `LDW_S r0,[gp,s10]` `1100110sssssssss` (R453) -/
  | ldw_s_r0gp (s : BitVec 9)
  /-- `ADD_S r0,gp,s11` `1100111sssssssss` (R221) -/
  | add_s_r0gp (s : BitVec 9)
  /-- `LD_S b,[pcl,u10]` `11010bbbuuuuuuuu` (R454) -/
  | ld_s_bpclu10 (b : Reg3) (u : BitVec 8)
  /-- `MOV_S b,u8` `11011bbbuuuuuuuu` (R290) -/
  | mov_s_bu8 (b : Reg3) (u : BitVec 8)
  /-- `ADD_S b,b,u7` `11100bbb0uuuuuuu` (R221) -/
  | add_s_bbu7 (b : Reg3) (u : BitVec 7)
  /-- `CMP_S b,u7` `11100bbb1uuuuuuu` (R226) -/
  | cmp_s_bu7 (b : Reg3) (u : BitVec 7)
  /-- `BREQ_S b,0,s8` `11101bbb0sssssss` (R391) -/
  | breq_s (b : Reg3) (s : BitVec 7)
  /-- `BRNE_S b,0,s8` `11101bbb1sssssss` (R391) -/
  | brne_s (b : Reg3) (s : BitVec 7)
  /-- `B_S s10` `1111000sssssssss` (R382) -/
  | b_s (s : BitVec 9)
  /-- `BEQ_S s10` `1111001sssssssss` (R382) -/
  | beq_s (s : BitVec 9)
  /-- `BNE_S s10` `1111010sssssssss` (R382) -/
  | bne_s (s : BitVec 9)
  /-- `BGT_S s7` `1111011000ssssss` (R383) -/
  | bgt_s (s : BitVec 6)
  /-- `BGE_S s7` `1111011001ssssss` (R383) -/
  | bge_s (s : BitVec 6)
  /-- `BLT_S s7` `1111011010ssssss` (R383) -/
  | blt_s (s : BitVec 6)
  /-- `BLE_S s7` `1111011011ssssss` (R383) -/
  | ble_s (s : BitVec 6)
  /-- `BHI_S s7` `1111011100ssssss` (R383) -/
  | bhi_s (s : BitVec 6)
  /-- `BHS_S s7` `1111011101ssssss` (R383) -/
  | bhs_s (s : BitVec 6)
  /-- `BLO_S s7` `1111011110ssssss` (R383) -/
  | blo_s (s : BitVec 6)
  /-- `BLS_S s7` `1111011111ssssss` (R383) -/
  | bls_s (s : BitVec 6)
  /-- `BL_S s13` `11111sssssssssss` (R387) -/
  | bl_s (s : BitVec 11)
deriving DecidableEq, Repr

end Sys2Proof
end

