-- ==== Sys2Proof/Machine/Shape.lean ====
section
/-! DEFINITION. The instructions by the FORMAT of their encoding (30_encoding.md R136 to R187): one constructor of `Shape` per
format, with the operation as an argument. `Instr.shape` and `Instr.ofShape` are inverse to each other
(Laws/Shape.lean); decoding and encoding are written over `Shape`, and statements over it speak of all the instructions of
a format at once: `Instr.ofShape (.alu op form)` runs through the constructors named in each type's docstring. -/

namespace Sys2Proof

/-- Dual-operand operations of major opcode 4, sub-opcodes 0x00 to 0x19 but for MOV and the compares (R140), and the four
multi-bit shifts of major opcode 5 (R165): constructors `add`, `adc`, … and `asl_multi`, `lsr_multi`, `asr_multi`, `ror_multi`. -/
inductive AluOp where
  | add | adc | sub | sbc | and | or | bic | xor | max | min | rsub | bset | bclr | bxor | bmsk
  | add1 | add2 | add3 | sub1 | sub2 | sub3 | asl | lsr | asr | ror
deriving DecidableEq, Repr

/-- The operations that only set flags (R141): constructors `tst`, `cmp`, `rcmp`, `btst`. -/
inductive TestOp where
  | tst | cmp | rcmp | btst
deriving DecidableEq, Repr

/-- Single-operand operations (R142, R166): constructors `asl`, `asr`, … `normw`. -/
inductive SopOp where
  | asl | asr | lsr | ror | rrc | sexb | sexw | extb | extw | abs | not | rlc | swap | norm | normw
deriving DecidableEq, Repr

/-- The compare-and-branch operations (R152): constructors `breq`, … `bbit1`. -/
inductive BrOp where
  | breq | brne | brlt | brge | brlo | brhs | bbit0 | bbit1
deriving DecidableEq, Repr

/-- Data sizes (R159). -/
inductive Size where
  | long | byte | half
deriving DecidableEq, Repr

/-- What a 32-bit load reads: size and extension (R159, R160); a long word has no extension. -/
inductive LdKind where
  | long
  | byte (x : Bool)
  | half (x : Bool)
deriving DecidableEq, Repr

/-- The 16-bit loads (R450 to R455). -/
inductive Ld16 where
  | abc (sz : Size) (a b c : Reg3)
  | cbu (sz : Size) (c b : Reg3) (u : BitVec 5)
  | cbuX (c b : Reg3) (u : BitVec 5)
  | sp (byte : Bool) (b : Reg3) (u : BitVec 5)
  | gp (sz : Size) (s : BitVec 9)
  | pcl (b : Reg3) (u : BitVec 8)
  | pop (b : Reg3)
  | popBlink
deriving DecidableEq, Repr

/-- The 16-bit stores (R461 to R463). -/
inductive St16 where
  | cbu (sz : Size) (c b : Reg3) (u : BitVec 5)
  | sp (byte : Bool) (b : Reg3) (u : BitVec 5)
  | push (b : Reg3)
  | pushBlink
deriving DecidableEq, Repr

/-- The operations of major opcode 0x0D (R172). -/
inductive OpU3 where
  | add | sub | asl | asr
deriving DecidableEq, Repr

/-- The dual-operand operations `op_S b,b,c` of major opcode 0x0F (R174). -/
inductive OpBbc where
  | sub | and | or | bic | xor | add1 | add2 | add3 | asl | lsr | asr
deriving DecidableEq, Repr

/-- The single-operand operations `op_S b,c` of major opcode 0x0F (R174). -/
inductive OpBc where
  | sexb | sexw | extb | extw | abs | not | neg | asl | asr | lsr
deriving DecidableEq, Repr

/-- The operations `op_S b,b,u5` of major opcode 0x17 (R178). -/
inductive OpU5 where
  | asl | lsr | asr | sub | bset | bclr | bmsk
deriving DecidableEq, Repr

/-- The 16-bit arithmetic, logic, move and compare forms (R171 to R174, R178 to R180, R182, R183). -/
inductive Data16 where
  | addAbc (a b c : Reg3)
  | cbu3 (op : OpU3) (c b : Reg3) (u : BitVec 3)
  | addBbh (b : Reg3) (h : Reg) (limm : Word)
  | movBh (b : Reg3) (h : Reg) (limm : Word)
  | cmpBh (b : Reg3) (h : Reg) (limm : Word)
  | movHb (h : Reg) (b : Reg3)
  | bbc (op : OpBbc) (b c : Reg3)
  | tst (b c : Reg3)
  | bc (op : OpBc) (b c : Reg3)
  | bbu5 (op : OpU5) (b : Reg3) (u : BitVec 5)
  | btst (b : Reg3) (u : BitVec 5)
  | addSp (b : Reg3) (u : BitVec 5)
  | adjSp (sub : Bool) (u : BitVec 5)
  | addGp (s : BitVec 9)
  | movU8 (b : Reg3) (u : BitVec 8)
  | addU7 (b : Reg3) (u : BitVec 7)
  | cmpU7 (b : Reg3) (u : BitVec 7)
  | subNe (b : Reg3)
deriving DecidableEq, Repr

/-- The conditions of B_S, BEQ_S, BNE_S (R382). -/
inductive CcB where
  | al | eq | ne
deriving DecidableEq, Repr

/-- The conditions of the eight Bcc_S (R383). -/
inductive Cc8 where
  | gt | ge | lt | le | hi | hs | lo | ls
deriving DecidableEq, Repr

/-- The 16-bit branches and jumps (R382, R383, R387, R391, R402, R406). -/
inductive Ctl16 where
  | j (link d : Bool) (b : Reg3)
  | jBlink (d : Bool)
  | jCond (ne : Bool)
  | br (ne : Bool) (b : Reg3) (s : BitVec 7)
  | b (cond : CcB) (s : BitVec 9)
  | bcc (cond : Cc8) (s : BitVec 6)
  | bl (s : BitVec 11)
deriving DecidableEq, Repr

/-- The instructions by format. -/
inductive Shape where
  | alu (op : AluOp) (form : GenForm)
  | test (op : TestOp) (form : CmpForm)
  | mul (signed : Bool) (form : CmpForm)
  | mov (form : MovForm)
  | nop
  | sop (op : SopOp) (form : SopForm)
  | jump (link : Bool) (form : JForm)
  | jumpD (link : Bool) (form : JDForm)
  | jumpF (form : JFForm)
  | lp (form : LpForm)
  | flag (form : JForm)
  | lr (form : LrForm)
  | sr (form : SrForm)
  | sleep
  | swi
  | load (kind : LdKind) (form : LdForm)
  | store (sz : Size) (c b : Reg) (s : BitVec 9) (aa : BitVec 2) (di : Bool) (limm : Word)
  | bcc (s : BitVec 20) (n : Bool) (q : BitVec 5)
  | bfar (s : BitVec 24) (n : Bool)
  | blcc (s : BitVec 19) (n : Bool) (q : BitVec 5)
  | bl (s : BitVec 23) (n : Bool)
  | br (op : BrOp) (form : BrForm)
  | load16 (form : Ld16)
  | store16 (form : St16)
  | data16 (form : Data16)
  | mul16 (b c : Reg3)
  | ctl16 (form : Ctl16)
  | nop16
  | brk
deriving DecidableEq, Repr


/-- The format of an instruction. -/
def Instr.shape : Instr → Shape
  | .add form => .alu .add form
  | .adc form => .alu .adc form
  | .sub form => .alu .sub form
  | .sbc form => .alu .sbc form
  | .and form => .alu .and form
  | .or form => .alu .or form
  | .bic form => .alu .bic form
  | .xor form => .alu .xor form
  | .max form => .alu .max form
  | .min form => .alu .min form
  | .rsub form => .alu .rsub form
  | .bset form => .alu .bset form
  | .bclr form => .alu .bclr form
  | .bxor form => .alu .bxor form
  | .bmsk form => .alu .bmsk form
  | .add1 form => .alu .add1 form
  | .add2 form => .alu .add2 form
  | .add3 form => .alu .add3 form
  | .sub1 form => .alu .sub1 form
  | .sub2 form => .alu .sub2 form
  | .sub3 form => .alu .sub3 form
  | .mov form => .mov form
  | .nop => .nop
  | .tst form => .test .tst form
  | .cmp form => .test .cmp form
  | .rcmp form => .test .rcmp form
  | .btst form => .test .btst form
  | .j form => .jump false form
  | .j_d form => .jumpD false form
  | .jl form => .jump true form
  | .jl_d form => .jumpD true form
  | .j_f form => .jumpF form
  | .lp form => .lp form
  | .flag form => .flag form
  | .lr form => .lr form
  | .sr form => .sr form
  | .asl form => .sop .asl form
  | .asr form => .sop .asr form
  | .lsr form => .sop .lsr form
  | .ror form => .sop .ror form
  | .rrc form => .sop .rrc form
  | .sexb form => .sop .sexb form
  | .sexw form => .sop .sexw form
  | .extb form => .sop .extb form
  | .extw form => .sop .extw form
  | .abs form => .sop .abs form
  | .not form => .sop .not form
  | .rlc form => .sop .rlc form
  | .sleep => .sleep
  | .swi => .swi
  | .ld form => .load .long form
  | .ldb x form => .load (.byte x) form
  | .ldw x form => .load (.half x) form
  | .asl_multi form => .alu .asl form
  | .lsr_multi form => .alu .lsr form
  | .asr_multi form => .alu .asr form
  | .ror_multi form => .alu .ror form
  | .mul64 form => .mul true form
  | .mulu64 form => .mul false form
  | .swap form => .sop .swap form
  | .norm form => .sop .norm form
  | .normw form => .sop .normw form
  | .bcc s n q => .bcc s n q
  | .b_s25 s n => .bfar s n
  | .blcc s n q => .blcc s n q
  | .bl s n => .bl s n
  | .breq form => .br .breq form
  | .brne form => .br .brne form
  | .brlt form => .br .brlt form
  | .brge form => .br .brge form
  | .brlo form => .br .brlo form
  | .brhs form => .br .brhs form
  | .bbit0 form => .br .bbit0 form
  | .bbit1 form => .br .bbit1 form
  | .st_cbs9 c b s aa di limm => .store .long c b s aa di limm
  | .stb_cbs9 c b s aa di limm => .store .byte c b s aa di limm
  | .stw_cbs9 c b s aa di limm => .store .half c b s aa di limm
  | .ld_s_abc a b c => .load16 (.abc .long a b c)
  | .ldb_s_abc a b c => .load16 (.abc .byte a b c)
  | .ldw_s_abc a b c => .load16 (.abc .half a b c)
  | .add_s_abc a b c => .data16 (.addAbc a b c)
  | .add_s_cbu3 c b u => .data16 (.cbu3 .add c b u)
  | .sub_s_cbu3 c b u => .data16 (.cbu3 .sub c b u)
  | .asl_s_cbu3 c b u => .data16 (.cbu3 .asl c b u)
  | .asr_s_cbu3 c b u => .data16 (.cbu3 .asr c b u)
  | .add_s_bbh b h limm => .data16 (.addBbh b h limm)
  | .mov_s_bh b h limm => .data16 (.movBh b h limm)
  | .cmp_s_bh b h limm => .data16 (.cmpBh b h limm)
  | .mov_s_hb h b => .data16 (.movHb h b)
  | .sub_s_bbc b c => .data16 (.bbc .sub b c)
  | .and_s_bbc b c => .data16 (.bbc .and b c)
  | .or_s_bbc b c => .data16 (.bbc .or b c)
  | .bic_s_bbc b c => .data16 (.bbc .bic b c)
  | .xor_s_bbc b c => .data16 (.bbc .xor b c)
  | .tst_s_bc b c => .data16 (.tst b c)
  | .mul64_s_bc b c => .mul16 b c
  | .sexb_s_bc b c => .data16 (.bc .sexb b c)
  | .sexw_s_bc b c => .data16 (.bc .sexw b c)
  | .extb_s_bc b c => .data16 (.bc .extb b c)
  | .extw_s_bc b c => .data16 (.bc .extw b c)
  | .abs_s_bc b c => .data16 (.bc .abs b c)
  | .not_s_bc b c => .data16 (.bc .not b c)
  | .neg_s_bc b c => .data16 (.bc .neg b c)
  | .add1_s_bbc b c => .data16 (.bbc .add1 b c)
  | .add2_s_bbc b c => .data16 (.bbc .add2 b c)
  | .add3_s_bbc b c => .data16 (.bbc .add3 b c)
  | .asl_s_bbc b c => .data16 (.bbc .asl b c)
  | .lsr_s_bbc b c => .data16 (.bbc .lsr b c)
  | .asr_s_bbc b c => .data16 (.bbc .asr b c)
  | .asl_s_bc b c => .data16 (.bc .asl b c)
  | .asr_s_bc b c => .data16 (.bc .asr b c)
  | .lsr_s_bc b c => .data16 (.bc .lsr b c)
  | .brk_s => .brk
  | .j_s_b b => .ctl16 (.j false false b)
  | .j_s_d_b b => .ctl16 (.j false true b)
  | .jl_s_b b => .ctl16 (.j true false b)
  | .jl_s_d_b b => .ctl16 (.j true true b)
  | .sub_s_ne b => .data16 (.subNe b)
  | .nop_s => .nop16
  | .jeq_s_blink => .ctl16 (.jCond false)
  | .jne_s_blink => .ctl16 (.jCond true)
  | .j_s_blink => .ctl16 (.jBlink false)
  | .j_s_d_blink => .ctl16 (.jBlink true)
  | .ld_s_cbu7 c b u => .load16 (.cbu .long c b u)
  | .ldb_s_cbu5 c b u => .load16 (.cbu .byte c b u)
  | .ldw_s_cbu6 c b u => .load16 (.cbu .half c b u)
  | .ldw_s_x_cbu6 c b u => .load16 (.cbuX c b u)
  | .st_s_cbu7 c b u => .store16 (.cbu .long c b u)
  | .stb_s_cbu5 c b u => .store16 (.cbu .byte c b u)
  | .stw_s_cbu6 c b u => .store16 (.cbu .half c b u)
  | .asl_s_bbu5 b u => .data16 (.bbu5 .asl b u)
  | .lsr_s_bbu5 b u => .data16 (.bbu5 .lsr b u)
  | .asr_s_bbu5 b u => .data16 (.bbu5 .asr b u)
  | .sub_s_bbu5 b u => .data16 (.bbu5 .sub b u)
  | .bset_s_bbu5 b u => .data16 (.bbu5 .bset b u)
  | .bclr_s_bbu5 b u => .data16 (.bbu5 .bclr b u)
  | .bmsk_s_bbu5 b u => .data16 (.bbu5 .bmsk b u)
  | .btst_s_bu5 b u => .data16 (.btst b u)
  | .ld_s_bspu7 b u => .load16 (.sp false b u)
  | .ldb_s_bspu7 b u => .load16 (.sp true b u)
  | .st_s_bspu7 b u => .store16 (.sp false b u)
  | .stb_s_bspu7 b u => .store16 (.sp true b u)
  | .add_s_bspu7 b u => .data16 (.addSp b u)
  | .add_s_spspu7 u => .data16 (.adjSp false u)
  | .sub_s_spspu7 u => .data16 (.adjSp true u)
  | .pop_s_b b => .load16 (.pop b)
  | .pop_s_blink => .load16 .popBlink
  | .push_s_b b => .store16 (.push b)
  | .push_s_blink => .store16 .pushBlink
  | .ld_s_r0gp s => .load16 (.gp .long s)
  | .ldb_s_r0gp s => .load16 (.gp .byte s)
  | .ldw_s_r0gp s => .load16 (.gp .half s)
  | .add_s_r0gp s => .data16 (.addGp s)
  | .ld_s_bpclu10 b u => .load16 (.pcl b u)
  | .mov_s_bu8 b u => .data16 (.movU8 b u)
  | .add_s_bbu7 b u => .data16 (.addU7 b u)
  | .cmp_s_bu7 b u => .data16 (.cmpU7 b u)
  | .breq_s b s => .ctl16 (.br false b s)
  | .brne_s b s => .ctl16 (.br true b s)
  | .b_s s => .ctl16 (.b .al s)
  | .beq_s s => .ctl16 (.b .eq s)
  | .bne_s s => .ctl16 (.b .ne s)
  | .bgt_s s => .ctl16 (.bcc .gt s)
  | .bge_s s => .ctl16 (.bcc .ge s)
  | .blt_s s => .ctl16 (.bcc .lt s)
  | .ble_s s => .ctl16 (.bcc .le s)
  | .bhi_s s => .ctl16 (.bcc .hi s)
  | .bhs_s s => .ctl16 (.bcc .hs s)
  | .blo_s s => .ctl16 (.bcc .lo s)
  | .bls_s s => .ctl16 (.bcc .ls s)
  | .bl_s s => .ctl16 (.bl s)

/-- The dual-operand instructions by their format. -/
def Instr.ofAlu (op : AluOp) (form : GenForm) : Instr :=
  match op with
  | .add => .add form
  | .adc => .adc form
  | .sub => .sub form
  | .sbc => .sbc form
  | .and => .and form
  | .or => .or form
  | .bic => .bic form
  | .xor => .xor form
  | .max => .max form
  | .min => .min form
  | .rsub => .rsub form
  | .bset => .bset form
  | .bclr => .bclr form
  | .bxor => .bxor form
  | .bmsk => .bmsk form
  | .add1 => .add1 form
  | .add2 => .add2 form
  | .add3 => .add3 form
  | .sub1 => .sub1 form
  | .sub2 => .sub2 form
  | .sub3 => .sub3 form
  | .asl => .asl_multi form
  | .lsr => .lsr_multi form
  | .asr => .asr_multi form
  | .ror => .ror_multi form

/-- The flag-setting instructions by their format. -/
def Instr.ofTest (op : TestOp) (form : CmpForm) : Instr :=
  match op with
  | .tst => .tst form
  | .cmp => .cmp form
  | .rcmp => .rcmp form
  | .btst => .btst form

/-- The J and JL instructions by their format. -/
def Instr.ofJump (link : Bool) (form : JForm) : Instr :=
  match link with
  | false => .j form
  | true => .jl form

/-- The J.D and JL.D instructions by their format. -/
def Instr.ofJumpD (link : Bool) (form : JDForm) : Instr :=
  match link with
  | false => .j_d form
  | true => .jl_d form

/-- The single-operand instructions by their format. -/
def Instr.ofSop (op : SopOp) (form : SopForm) : Instr :=
  match op with
  | .asl => .asl form
  | .asr => .asr form
  | .lsr => .lsr form
  | .ror => .ror form
  | .rrc => .rrc form
  | .sexb => .sexb form
  | .sexw => .sexw form
  | .extb => .extb form
  | .extw => .extw form
  | .abs => .abs form
  | .not => .not form
  | .rlc => .rlc form
  | .swap => .swap form
  | .norm => .norm form
  | .normw => .normw form

/-- The 32-bit load instructions by their format. -/
def Instr.ofLoad (kind : LdKind) (form : LdForm) : Instr :=
  match kind with
  | .long => .ld form
  | .byte x => .ldb x form
  | .half x => .ldw x form

/-- The 32-bit multiply instructions by their format. -/
def Instr.ofMul (signed : Bool) (form : CmpForm) : Instr :=
  match signed with
  | true => .mul64 form
  | false => .mulu64 form

/-- The compare-and-branch instructions by their format. -/
def Instr.ofBr (op : BrOp) (form : BrForm) : Instr :=
  match op with
  | .breq => .breq form
  | .brne => .brne form
  | .brlt => .brlt form
  | .brge => .brge form
  | .brlo => .brlo form
  | .brhs => .brhs form
  | .bbit0 => .bbit0 form
  | .bbit1 => .bbit1 form

/-- The 16-bit load instructions by their format. -/
def Instr.ofLoad16 (form : Ld16) : Instr :=
  match form with
  | .abc .long a b c => .ld_s_abc a b c
  | .abc .byte a b c => .ldb_s_abc a b c
  | .abc .half a b c => .ldw_s_abc a b c
  | .cbu .long c b u => .ld_s_cbu7 c b u
  | .cbu .byte c b u => .ldb_s_cbu5 c b u
  | .cbu .half c b u => .ldw_s_cbu6 c b u
  | .cbuX c b u => .ldw_s_x_cbu6 c b u
  | .sp false b u => .ld_s_bspu7 b u
  | .sp true b u => .ldb_s_bspu7 b u
  | .pop b => .pop_s_b b
  | .popBlink => .pop_s_blink
  | .gp .long s => .ld_s_r0gp s
  | .gp .byte s => .ldb_s_r0gp s
  | .gp .half s => .ldw_s_r0gp s
  | .pcl b u => .ld_s_bpclu10 b u

/-- The 16-bit data instructions by their format. -/
def Instr.ofData16 (form : Data16) : Instr :=
  match form with
  | .addAbc a b c => .add_s_abc a b c
  | .cbu3 .add c b u => .add_s_cbu3 c b u
  | .cbu3 .sub c b u => .sub_s_cbu3 c b u
  | .cbu3 .asl c b u => .asl_s_cbu3 c b u
  | .cbu3 .asr c b u => .asr_s_cbu3 c b u
  | .addBbh b h limm => .add_s_bbh b h limm
  | .movBh b h limm => .mov_s_bh b h limm
  | .cmpBh b h limm => .cmp_s_bh b h limm
  | .movHb h b => .mov_s_hb h b
  | .bbc .sub b c => .sub_s_bbc b c
  | .bbc .and b c => .and_s_bbc b c
  | .bbc .or b c => .or_s_bbc b c
  | .bbc .bic b c => .bic_s_bbc b c
  | .bbc .xor b c => .xor_s_bbc b c
  | .tst b c => .tst_s_bc b c
  | .bc .sexb b c => .sexb_s_bc b c
  | .bc .sexw b c => .sexw_s_bc b c
  | .bc .extb b c => .extb_s_bc b c
  | .bc .extw b c => .extw_s_bc b c
  | .bc .abs b c => .abs_s_bc b c
  | .bc .not b c => .not_s_bc b c
  | .bc .neg b c => .neg_s_bc b c
  | .bbc .add1 b c => .add1_s_bbc b c
  | .bbc .add2 b c => .add2_s_bbc b c
  | .bbc .add3 b c => .add3_s_bbc b c
  | .bbc .asl b c => .asl_s_bbc b c
  | .bbc .lsr b c => .lsr_s_bbc b c
  | .bbc .asr b c => .asr_s_bbc b c
  | .bc .asl b c => .asl_s_bc b c
  | .bc .asr b c => .asr_s_bc b c
  | .bc .lsr b c => .lsr_s_bc b c
  | .subNe b => .sub_s_ne b
  | .bbu5 .asl b u => .asl_s_bbu5 b u
  | .bbu5 .lsr b u => .lsr_s_bbu5 b u
  | .bbu5 .asr b u => .asr_s_bbu5 b u
  | .bbu5 .sub b u => .sub_s_bbu5 b u
  | .bbu5 .bset b u => .bset_s_bbu5 b u
  | .bbu5 .bclr b u => .bclr_s_bbu5 b u
  | .bbu5 .bmsk b u => .bmsk_s_bbu5 b u
  | .btst b u => .btst_s_bu5 b u
  | .addSp b u => .add_s_bspu7 b u
  | .adjSp false u => .add_s_spspu7 u
  | .adjSp true u => .sub_s_spspu7 u
  | .addGp s => .add_s_r0gp s
  | .movU8 b u => .mov_s_bu8 b u
  | .addU7 b u => .add_s_bbu7 b u
  | .cmpU7 b u => .cmp_s_bu7 b u

/-- The 16-bit control instructions by their format. -/
def Instr.ofCtl16 (form : Ctl16) : Instr :=
  match form with
  | .j false false b => .j_s_b b
  | .j false true b => .j_s_d_b b
  | .j true false b => .jl_s_b b
  | .j true true b => .jl_s_d_b b
  | .jCond false => .jeq_s_blink
  | .jCond true => .jne_s_blink
  | .jBlink false => .j_s_blink
  | .jBlink true => .j_s_d_blink
  | .br false b s => .breq_s b s
  | .br true b s => .brne_s b s
  | .b .al s => .b_s s
  | .b .eq s => .beq_s s
  | .b .ne s => .bne_s s
  | .bcc .gt s => .bgt_s s
  | .bcc .ge s => .bge_s s
  | .bcc .lt s => .blt_s s
  | .bcc .le s => .ble_s s
  | .bcc .hi s => .bhi_s s
  | .bcc .hs s => .bhs_s s
  | .bcc .lo s => .blo_s s
  | .bcc .ls s => .bls_s s
  | .bl s => .bl_s s

/-- The 16-bit store instructions by their format. -/
def Instr.ofStore16 (form : St16) : Instr :=
  match form with
  | .cbu .long c b u => .st_s_cbu7 c b u
  | .cbu .byte c b u => .stb_s_cbu5 c b u
  | .cbu .half c b u => .stw_s_cbu6 c b u
  | .sp false b u => .st_s_bspu7 b u
  | .sp true b u => .stb_s_bspu7 b u
  | .push b => .push_s_b b
  | .pushBlink => .push_s_blink

/-- The instruction of a format. -/
def Instr.ofShape : Shape → Instr
  | .alu op form => Instr.ofAlu op form
  | .mov form => .mov form
  | .nop => .nop
  | .test op form => Instr.ofTest op form
  | .jump link form => Instr.ofJump link form
  | .jumpD link form => Instr.ofJumpD link form
  | .jumpF form => .j_f form
  | .lp form => .lp form
  | .flag form => .flag form
  | .lr form => .lr form
  | .sr form => .sr form
  | .sop op form => Instr.ofSop op form
  | .sleep => .sleep
  | .swi => .swi
  | .load kind form => Instr.ofLoad kind form
  | .mul signed form => Instr.ofMul signed form
  | .bcc s n q => .bcc s n q
  | .bfar s n => .b_s25 s n
  | .blcc s n q => .blcc s n q
  | .bl s n => .bl s n
  | .br op form => Instr.ofBr op form
  | .store sz c b s aa di limm =>
    match sz with
    | .long => .st_cbs9 c b s aa di limm
    | .byte => .stb_cbs9 c b s aa di limm
    | .half => .stw_cbs9 c b s aa di limm
  | .load16 form => Instr.ofLoad16 form
  | .data16 form => Instr.ofData16 form
  | .mul16 b c => .mul64_s_bc b c
  | .brk => .brk_s
  | .ctl16 form => Instr.ofCtl16 form
  | .nop16 => .nop_s
  | .store16 form => Instr.ofStore16 form

/-! ### The long immediate of an instruction -/

/-- A source register field that holds 62 asks for the long immediate word (R133). -/
def isLimm (r : Reg) : Bool := r == 62#6

/-- Whether the source register fields of a general format ask for a long immediate, and the word (R136). -/
def GenForm.limmPart : GenForm → Bool × Word
  | .abc _ _ b c limm => (isLimm b || isLimm c, limm)
  | .abu6 _ _ b _ limm => (isLimm b, limm)
  | .bbs12 _ b _ limm => (isLimm b, limm)
  | .ccbbc _ b c _ limm => (isLimm b || isLimm c, limm)
  | .ccbbu6 _ b _ _ limm => (isLimm b, limm)

/-- The same for the flag-setting and multiply formats (R141). -/
def CmpForm.limmPart : CmpForm → Bool × Word
  | .bc b c limm => (isLimm b || isLimm c, limm)
  | .bu6 b _ limm => (isLimm b, limm)
  | .bs12 b _ limm => (isLimm b, limm)
  | .ccbc b c _ limm => (isLimm b || isLimm c, limm)
  | .ccbu6 b _ _ limm => (isLimm b, limm)

/-- The same for MOV: B is a destination only (R141). -/
def MovForm.limmPart : MovForm → Bool × Word
  | .bc _ _ c limm => (isLimm c, limm)
  | .ccbc _ _ c _ limm => (isLimm c, limm)
  | .bu6 .. | .bs12 .. | .ccbu6 .. => (false, 0#32)

/-- The same for the single-operand formats (R142). -/
def SopForm.limmPart : SopForm → Bool × Word
  | .bc _ _ c limm => (isLimm c, limm)
  | .bu6 .. => (false, 0#32)

/-- The same for J, JL and FLAG (R141). -/
def JForm.limmPart : JForm → Bool × Word
  | .c r limm => (isLimm r, limm)
  | .ccc r _ limm => (isLimm r, limm)
  | .u6 _ | .s12 _ | .ccu6 .. => (false, 0#32)

/-- The same for LR: B is a destination only (R141). -/
def LrForm.limmPart : LrForm → Bool × Word
  | .bc _ c limm => (isLimm c, limm)
  | .bs12 .. => (false, 0#32)

/-- The same for SR: B is the data, a source (R141). -/
def SrForm.limmPart : SrForm → Bool × Word
  | .bc b c limm => (isLimm b || isLimm c, limm)
  | .bs12 b _ limm => (isLimm b, limm)

/-- The same for the loads (R144, R155). -/
def LdForm.limmPart : LdForm → Bool × Word
  | .rr _ b c _ _ limm => (isLimm b || isLimm c, limm)
  | .s9 _ b _ _ _ limm => (isLimm b, limm)

/-- The same for compare-and-branch (R152). -/
def BrForm.limmPart : BrForm → Bool × Word
  | .bcs9 b c _ _ limm => (isLimm b || isLimm c, limm)
  | .bu6s9 b _ _ _ limm => (isLimm b, limm)

/-- The same for the 16-bit data formats: the high-register source h (R173). -/
def Data16.limmPart : Data16 → Bool × Word
  | .addBbh _ h limm => (isLimm h, limm)
  | .movBh _ h limm => (isLimm h, limm)
  | .cmpBh _ h limm => (isLimm h, limm)
  | .addAbc .. | .cbu3 .. | .movHb .. | .bbc .. | .tst .. | .bc .. | .bbu5 .. | .btst .. | .addSp .. | .adjSp ..
  | .addGp _ | .movU8 .. | .addU7 .. | .cmpU7 .. | .subNe _ => (false, 0#32)

/-- Whether an instruction carries a long immediate word, and the word (R133). -/
def Shape.limmPart : Shape → Bool × Word
  | .alu _ form => form.limmPart
  | .test _ form => form.limmPart
  | .mul _ form => form.limmPart
  | .mov form => form.limmPart
  | .sop _ form => form.limmPart
  | .jump _ form => form.limmPart
  | .flag form => form.limmPart
  | .lr form => form.limmPart
  | .sr form => form.limmPart
  | .load _ form => form.limmPart
  | .store _ c b _ _ _ limm => (isLimm b || isLimm c, limm)
  | .br _ form => form.limmPart
  | .data16 form => form.limmPart
  | .nop | .jumpD .. | .jumpF _ | .lp _ | .sleep | .swi | .bcc .. | .bfar .. | .blcc .. | .bl .. | .load16 _ | .store16 _
  | .mul16 .. | .ctl16 _ | .nop16 | .brk => (false, 0#32)

/-- Whether an instruction carries a long immediate word (R133). -/
def Instr.hasLimm (i : Instr) : Bool := i.shape.limmPart.1

/-- Whether an instruction is a 16-bit one (R130). -/
def Shape.isShort : Shape → Bool
  | .load16 _ | .store16 _ | .data16 _ | .mul16 .. | .ctl16 _ | .nop16 | .brk => true
  | .alu .. | .test .. | .mul .. | .mov _ | .nop | .sop .. | .jump .. | .jumpD .. | .jumpF _ | .lp _ | .flag _ | .lr _
  | .sr _ | .sleep | .swi | .load .. | .store .. | .bcc .. | .bfar .. | .blcc .. | .bl .. | .br .. => false

/-- The base length of an instruction, without its long immediate, in bytes (R133). -/
def Instr.base (i : Instr) : Nat := bif i.shape.isShort then 2 else 4

/-- The length of an instruction in bytes: 2, 4, 6 or 8 (R133). -/
def Instr.length (i : Instr) : Nat := i.base + bif i.hasLimm then 4 else 0

end Sys2Proof
end

