-- ==== Sys2Proof/WellFormed.lean ====
section
/-! DEFINITION. Which terms of `Instr` are the reading of an encoding: the conditions that the types of the fields do not
already say. A term that no encoding gives (a long immediate that nothing asks for, a combination the manual does not
define) is not well formed. -/

namespace Sys2Proof

/-- A long immediate that no source field asks for is 0: there is no such word in the encoding (30_encoding.md R133). -/
def Shape.limmFits (v : Shape) : Bool := v.limmPart.1 || v.limmPart.2 == 0#32

/-- The write-back mode of a load or store: with a long immediate as base the bits are reserved and read as 00
(44_load_store.md R444, 92_eei_decisions.md D7); scaling a byte access is not defined (30_encoding.md R157, D8). -/
def aaFits (byteSize : Bool) (b : Reg) (aa : BitVec 2) : Bool :=
  bif isLimm b then aa == 0#2 else !(byteSize && aa == 3#2)

/-- The fields of a load: no null destination (D8), and `aaFits`. -/
def LdForm.fits (kind : LdKind) (form : LdForm) : Bool :=
  let isByte := match kind with
    | .byte _ => true
    | .long | .half _ => false
  match form with
  | .rr a b _ aa _ _ => !isLimm a && aaFits isByte b aa
  | .s9 a b _ aa _ _ => !isLimm a && aaFits isByte b aa

/-- A delayed jump takes no long immediate (43_branch_jump_loop.md R372). -/
def JDForm.fits : JDForm → Bool
  | .c r => !isLimm r
  | .ccc r _ => !isLimm r
  | .u6 _ | .s12 _ | .ccu6 .. => true

/-- A compare-and-branch with a long immediate has no delay slot (R372). -/
def BrForm.fits (form : BrForm) : Bool :=
  match form with
  | .bcs9 _ _ _ n _ => !(n && form.limmPart.1)
  | .bu6s9 _ _ _ n _ => !(n && form.limmPart.1)

/-- `MOV 0,0` is spelled NOP: the constructor `nop` (45_aux_system.md R496). -/
def MovForm.fits : MovForm → Bool
  | .bu6 f b u => !(!f && b == 62#6 && u == 0#6)
  | .bc .. | .bs12 .. | .ccbc .. | .ccbu6 .. => true

/-- The conditions on the fields other than the long immediate. -/
def Shape.fieldsFit : Shape → Bool
  | .load kind form => form.fits kind
  | .store sz _ b _ aa _ _ => aaFits (sz == .byte) b aa
  | .jumpD _ form => form.fits
  | .br _ form => form.fits
  | .mov form => form.fits
  | .alu .. | .test .. | .mul .. | .nop | .sop .. | .jump .. | .jumpF _ | .lp _ | .flag _ | .lr _ | .sr _ | .sleep | .swi
  | .bcc .. | .bfar .. | .blcc .. | .bl .. | .load16 _ | .store16 _ | .data16 _ | .mul16 .. | .ctl16 _ | .nop16
  | .brk => true

/-- Well-formed formats. -/
def Shape.wf (v : Shape) : Bool := v.limmFits && v.fieldsFit

/-- Well-formed instructions: exactly those some encoding decodes to. -/
def Instr.wf (i : Instr) : Bool := i.shape.wf

end Sys2Proof
end

