-- ==== Sys2Proof/Decode.lean ====
section
/-! DEFINITION. Decoding and encoding of instructions (30_encoding.md), in the shape of its tables: the fields of an
instruction word, the map from sub-opcodes to operations, then the formats. `decodeHalves` is total: an instruction, a
reserved opcode (which raises Instruction Error, R200 (a)), or one of the field combinations the manual leaves undefined
(R200 (c), 92_eei_decisions.md D8, D20), by name. Reserved fields inside a valid instruction are ignored (R200 (b), D7).
`encode` is written from the same tables, with 0 in every reserved field. -/

namespace Sys2Proof

/-- The field combinations that the manual calls undefined, invalid or does not list (R200 (c), D8, D20; log 22). -/
inductive UndefinedForm where
  /-- TST, CMP, RCMP or BTST with F = 0 (R137) -/
  | testWithoutF
  /-- Jcc with F = 1 and a source other than ILINK1 or ILINK2, or JLcc with F = 1 (D20) -/
  | jumpWithF
  /-- the delay-slot mode with a long immediate (43_branch_jump_loop.md R372) -/
  | delayedWithLimm
  /-- LP in a format other than the two of its page (R420) -/
  | lpFormat
  /-- LR in a format its page does not list (45_aux_system.md R490) -/
  | lrFormat
  /-- SR in a format its page does not list (45_aux_system.md R491) -/
  | srFormat
  /-- sub-opcode 0x2F with P = 10 or 11 (R142) -/
  | sopFormat
  /-- SLEEP or SWI in the register format P = 00 (R143) -/
  | zopFormat
  /-- ZZ = 11 (R159) -/
  | sizeReserved
  /-- X = 1 with a long word (R160) -/
  | extendLong
  /-- .AS with a byte (R157) -/
  | scaledByte
  /-- a load whose destination field is 62 (44_load_store.md R443) -/
  | loadNull
  /-- ADD_S / SUB_S SP,SP,u7 with b = 2 to 7 (R179) -/
  | spAdjust
  /-- POP_S or PUSH_S with u other than 1 or 17 (R179) -/
  | popPush
  /-- major 0x0F, i = 0x1F, other than 0x7FFF (R201) -/
  | brkFields
deriving DecidableEq, Repr

/-- What an encoding stands for. -/
inductive Decoded where
  /-- an instruction of the opcode table -/
  | ok (i : Instr)
  /-- a reserved opcode or sub-opcode: Instruction Error (R200 (a)) -/
  | reserved
  /-- an undefined combination of fields (R200 (c)) -/
  | undefinedForm (u : UndefinedForm)
  /-- fewer bytes than the instruction has (`decodeBytes` only) -/
  | truncated
deriving DecidableEq, Repr

/-- An instruction given by its format. -/
def Decoded.ofShape (v : Shape) : Decoded := .ok (Instr.ofShape v)

/-! ### The fields of an instruction word (R132, R150 to R156) -/

/-- One bit of a word. -/
def bitAt {w : Nat} (x : BitVec w) (n : Nat) : Bool := x.extractLsb' n 1 == 1#1

/-- The major opcode of a 32-bit instruction word (R130). -/
def fMajor (w : Word) : BitVec 5 := w.extractLsb' 27 5
/-- The operand mode P (R132). -/
def fP (w : Word) : BitVec 2 := w.extractLsb' 22 2
/-- Sub-opcode 1 (R132). -/
def fSub (w : Word) : BitVec 6 := w.extractLsb' 16 6
/-- The flag-setting bit F (R132). -/
def fF (w : Word) : Bool := bitAt w 15
/-- The B register field, in two parts (R132). -/
def fB (w : Word) : Reg := w.extractLsb' 12 3 ++ w.extractLsb' 24 3
/-- The C register field, or u6 (R132). -/
def fC (w : Word) : BitVec 6 := w.extractLsb' 6 6
/-- The A register field (R132). -/
def fA (w : Word) : BitVec 6 := w.extractLsb' 0 6
/-- The 12-bit signed immediate, in two parts (R136). -/
def fS12 (w : Word) : BitVec 12 := w.extractLsb' 0 6 ++ w.extractLsb' 6 6
/-- The condition code field Q (R138). -/
def fQ (w : Word) : BitVec 5 := w.extractLsb' 0 5
/-- The 9-bit offset of majors 2 and 3, in two parts (R155, R156). -/
def fS9 (w : Word) : BitVec 9 := w.extractLsb' 15 1 ++ w.extractLsb' 16 8

/-- The long immediate, where a source field asks for one (R133). -/
def limmIf (uses : Bool) (limm : Word) : Word := bif uses then limm else 0#32

/-! ### Sub-opcodes (R140 to R143, R165, R166) -/

/-- Sub-opcode 1 of major 4 (R140, R141). -/
inductive Sub4 where
  | alu (op : AluOp)
  | test (op : TestOp)
  | mov
  | jump (link : Bool)
  | jumpD (link : Bool)
  | lp
  | flag
  | lr
  | sr
  | sop
  | load (zz : BitVec 2) (x : Bool)
  | reserved
deriving DecidableEq, Repr

/-- Tables 6.10 and 6.11. -/
def Sub4.ofCode (n : Nat) : Sub4 :=
  match n with
  | 0x00 => .alu .add
  | 0x01 => .alu .adc
  | 0x02 => .alu .sub
  | 0x03 => .alu .sbc
  | 0x04 => .alu .and
  | 0x05 => .alu .or
  | 0x06 => .alu .bic
  | 0x07 => .alu .xor
  | 0x08 => .alu .max
  | 0x09 => .alu .min
  | 0x0A => .mov
  | 0x0B => .test .tst
  | 0x0C => .test .cmp
  | 0x0D => .test .rcmp
  | 0x0E => .alu .rsub
  | 0x0F => .alu .bset
  | 0x10 => .alu .bclr
  | 0x11 => .test .btst
  | 0x12 => .alu .bxor
  | 0x13 => .alu .bmsk
  | 0x14 => .alu .add1
  | 0x15 => .alu .add2
  | 0x16 => .alu .add3
  | 0x17 => .alu .sub1
  | 0x18 => .alu .sub2
  | 0x19 => .alu .sub3
  | 0x20 => .jump false
  | 0x21 => .jumpD false
  | 0x22 => .jump true
  | 0x23 => .jumpD true
  | 0x28 => .lp
  | 0x29 => .flag
  | 0x2A => .lr
  | 0x2B => .sr
  | 0x2F => .sop
  | 0x30 => .load 0#2 false
  | 0x31 => .load 0#2 true
  | 0x32 => .load 1#2 false
  | 0x33 => .load 1#2 true
  | 0x34 => .load 2#2 false
  | 0x35 => .load 2#2 true
  | 0x36 => .load 3#2 false
  | 0x37 => .load 3#2 true
  | _ => .reserved

/-- Major opcode and sub-opcode 1 of a dual-operand operation (R140, R165). -/
def AluOp.code : AluOp → BitVec 5 × BitVec 6
  | .add => (4#5, 0x00#6)
  | .adc => (4#5, 0x01#6)
  | .sub => (4#5, 0x02#6)
  | .sbc => (4#5, 0x03#6)
  | .and => (4#5, 0x04#6)
  | .or => (4#5, 0x05#6)
  | .bic => (4#5, 0x06#6)
  | .xor => (4#5, 0x07#6)
  | .max => (4#5, 0x08#6)
  | .min => (4#5, 0x09#6)
  | .rsub => (4#5, 0x0E#6)
  | .bset => (4#5, 0x0F#6)
  | .bclr => (4#5, 0x10#6)
  | .bxor => (4#5, 0x12#6)
  | .bmsk => (4#5, 0x13#6)
  | .add1 => (4#5, 0x14#6)
  | .add2 => (4#5, 0x15#6)
  | .add3 => (4#5, 0x16#6)
  | .sub1 => (4#5, 0x17#6)
  | .sub2 => (4#5, 0x18#6)
  | .sub3 => (4#5, 0x19#6)
  | .asl => (5#5, 0x00#6)
  | .lsr => (5#5, 0x01#6)
  | .asr => (5#5, 0x02#6)
  | .ror => (5#5, 0x03#6)

/-- Sub-opcode 1 of a flag-setting operation (R140). -/
def TestOp.code : TestOp → BitVec 6
  | .tst => 0x0B#6
  | .cmp => 0x0C#6
  | .rcmp => 0x0D#6
  | .btst => 0x11#6

/-- Sub-opcode 1 of major 5 (R165). -/
inductive Sub5 where
  | alu (op : AluOp)
  | mul (signed : Bool)
  | sop
  | reserved
deriving DecidableEq, Repr

/-- Table 6.15. -/
def Sub5.ofCode (n : Nat) : Sub5 :=
  match n with
  | 0x00 => .alu .asl
  | 0x01 => .alu .lsr
  | 0x02 => .alu .asr
  | 0x03 => .alu .ror
  | 0x04 => .mul true
  | 0x05 => .mul false
  | 0x2F => .sop
  | _ => .reserved

/-- Sub-opcode 2 of major 4 (Table 6.12); 0x3F is the escape to sub-opcode 3. -/
def SopOp.ofCode4 (n : Nat) : Option SopOp :=
  match n with
  | 0x00 => some .asl
  | 0x01 => some .asr
  | 0x02 => some .lsr
  | 0x03 => some .ror
  | 0x04 => some .rrc
  | 0x05 => some .sexb
  | 0x06 => some .sexw
  | 0x07 => some .extb
  | 0x08 => some .extw
  | 0x09 => some .abs
  | 0x0A => some .not
  | 0x0B => some .rlc
  | _ => none

/-- Sub-opcode 2 of major 5 (Table 6.16). -/
def SopOp.ofCode5 (n : Nat) : Option SopOp :=
  match n with
  | 0x00 => some .swap
  | 0x01 => some .norm
  | 0x08 => some .normw
  | _ => none

/-- Major opcode and sub-opcode 2 of a single-operand operation (R142, R166). -/
def SopOp.code : SopOp → BitVec 5 × BitVec 6
  | .asl => (4#5, 0x00#6)
  | .asr => (4#5, 0x01#6)
  | .lsr => (4#5, 0x02#6)
  | .ror => (4#5, 0x03#6)
  | .rrc => (4#5, 0x04#6)
  | .sexb => (4#5, 0x05#6)
  | .sexw => (4#5, 0x06#6)
  | .extb => (4#5, 0x07#6)
  | .extw => (4#5, 0x08#6)
  | .abs => (4#5, 0x09#6)
  | .not => (4#5, 0x0A#6)
  | .rlc => (4#5, 0x0B#6)
  | .swap => (5#5, 0x00#6)
  | .norm => (5#5, 0x01#6)
  | .normw => (5#5, 0x08#6)

/-- Sub-opcode of a compare-and-branch (Tables 6.8, 6.9). -/
def BrOp.ofCode (n : Nat) : Option BrOp :=
  match n with
  | 0x0 => some .breq
  | 0x1 => some .brne
  | 0x2 => some .brlt
  | 0x3 => some .brge
  | 0x4 => some .brlo
  | 0x5 => some .brhs
  | 0xE => some .bbit0
  | 0xF => some .bbit1
  | _ => none

/-- Sub-opcode of a compare-and-branch (R152). -/
def BrOp.code : BrOp → BitVec 4
  | .breq => 0x0#4
  | .brne => 0x1#4
  | .brlt => 0x2#4
  | .brge => 0x3#4
  | .brlo => 0x4#4
  | .brhs => 0x5#4
  | .bbit0 => 0xE#4
  | .bbit1 => 0xF#4

/-! ### The 32-bit formats -/

/-- The five general formats (R136). -/
def genForm (w limm : Word) : GenForm :=
  match (fP w).toNat with
  | 0 => .abc (fF w) (fA w) (fB w) (fC w) (limmIf (isLimm (fB w) || isLimm (fC w)) limm)
  | 1 => .abu6 (fF w) (fA w) (fB w) (fC w) (limmIf (isLimm (fB w)) limm)
  | 2 => .bbs12 (fF w) (fB w) (fS12 w) (limmIf (isLimm (fB w)) limm)
  | _ =>
    bif bitAt w 5 then .ccbbu6 (fF w) (fB w) (fC w) (fQ w) (limmIf (isLimm (fB w)) limm)
    else .ccbbc (fF w) (fB w) (fC w) (fQ w) (limmIf (isLimm (fB w) || isLimm (fC w)) limm)

/-- The five formats without destination (R141). -/
def cmpForm (w limm : Word) : CmpForm :=
  match (fP w).toNat with
  | 0 => .bc (fB w) (fC w) (limmIf (isLimm (fB w) || isLimm (fC w)) limm)
  | 1 => .bu6 (fB w) (fC w) (limmIf (isLimm (fB w)) limm)
  | 2 => .bs12 (fB w) (fS12 w) (limmIf (isLimm (fB w)) limm)
  | _ =>
    bif bitAt w 5 then .ccbu6 (fB w) (fC w) (fQ w) (limmIf (isLimm (fB w)) limm)
    else .ccbc (fB w) (fC w) (fQ w) (limmIf (isLimm (fB w) || isLimm (fC w)) limm)

/-- The five formats of MOV (R141). -/
def movForm (w limm : Word) : MovForm :=
  match (fP w).toNat with
  | 0 => .bc (fF w) (fB w) (fC w) (limmIf (isLimm (fC w)) limm)
  | 1 => .bu6 (fF w) (fB w) (fC w)
  | 2 => .bs12 (fF w) (fB w) (fS12 w)
  | _ =>
    bif bitAt w 5 then .ccbu6 (fF w) (fB w) (fC w) (fQ w)
    else .ccbc (fF w) (fB w) (fC w) (fQ w) (limmIf (isLimm (fC w)) limm)

/-- The five formats of J, JL and FLAG (R141). -/
def jForm (w limm : Word) : JForm :=
  match (fP w).toNat with
  | 0 => .c (fC w) (limmIf (isLimm (fC w)) limm)
  | 1 => .u6 (fC w)
  | 2 => .s12 (fS12 w)
  | _ => bif bitAt w 5 then .ccu6 (fC w) (fQ w) else .ccc (fC w) (fQ w) (limmIf (isLimm (fC w)) limm)

/-- The five formats of J.D and JL.D; none with a long immediate (R372). -/
def jdForm (w : Word) : Option JDForm :=
  match (fP w).toNat with
  | 0 => bif isLimm (fC w) then none else some (.c (fC w))
  | 1 => some (.u6 (fC w))
  | 2 => some (.s12 (fS12 w))
  | _ =>
    bif bitAt w 5 then some (.ccu6 (fC w) (fQ w))
    else bif isLimm (fC w) then none else some (.ccc (fC w) (fQ w))

/-- Whether a register number is that of ILINK2 (r30) or ILINK1 (r29), if either (R401). -/
def ilinkOf (r : Reg) : Option Bool :=
  bif r == 29#6 then some false else bif r == 30#6 then some true else none

/-- `Jcc.F [ILINKn]` (R401), with the delay slot for `J.D.F` (D19); any other source with F = 1 is undefined (D20). -/
def decodeJF (w : Word) (d : Bool) : Decoded :=
  match ilinkOf (fC w), (fP w).toNat with
  | some l, 0 => .ofShape (.jumpF (.c l d))
  | some l, 3 => bif bitAt w 5 then .undefinedForm .jumpWithF else .ofShape (.jumpF (.ccc l d (fQ w)))
  | _, _ => .undefinedForm .jumpWithF

/-- Jcc and JLcc (R400, R405). -/
def decodeJ (w limm : Word) (link : Bool) : Decoded :=
  bif fF w then (bif link then .undefinedForm .jumpWithF else decodeJF w false)
  else .ofShape (.jump link (jForm w limm))

/-- Jcc.D and JLcc.D (R400, R405). -/
def decodeJD (w : Word) (link : Bool) : Decoded :=
  bif fF w then (bif link then .undefinedForm .jumpWithF else decodeJF w true)
  else match jdForm w with
    | some form => .ofShape (.jumpD link form)
    | none => .undefinedForm .delayedWithLimm

/-- LP (R420). -/
def decodeLp (w : Word) : Decoded :=
  bif fF w then .undefinedForm .lpFormat
  else match (fP w).toNat with
    | 2 => .ofShape (.lp (.s13 (fS12 w)))
    | 3 => bif bitAt w 5 then .ofShape (.lp (.ccu7 (fC w) (fQ w))) else .undefinedForm .lpFormat
    | _ => .undefinedForm .lpFormat

/-- LR (R490). -/
def decodeLr (w limm : Word) : Decoded :=
  match (fP w).toNat with
  | 0 => .ofShape (.lr (.bc (fB w) (fC w) (limmIf (isLimm (fC w)) limm)))
  | 2 => .ofShape (.lr (.bs12 (fB w) (fS12 w)))
  | _ => .undefinedForm .lrFormat

/-- SR (R491). -/
def decodeSr (w limm : Word) : Decoded :=
  match (fP w).toNat with
  | 0 => .ofShape (.sr (.bc (fB w) (fC w) (limmIf (isLimm (fB w) || isLimm (fC w)) limm)))
  | 2 => .ofShape (.sr (.bs12 (fB w) (fS12 w) (limmIf (isLimm (fB w)) limm)))
  | _ => .undefinedForm .srFormat

/-- Sub-opcode 0x2F, then sub-opcode 2, then sub-opcode 3 (R142, R143, R166). -/
def decodeSop (w limm : Word) (op : Option SopOp) (major4 : Bool) : Decoded :=
  match (fP w).toNat with
  | 0 =>
    match op with
    | some op => .ofShape (.sop op (.bc (fF w) (fB w) (fC w) (limmIf (isLimm (fC w)) limm)))
    | none =>
      bif major4 && fA w == 0x3F#6 && (fB w == 1#6 || fB w == 2#6) then .undefinedForm .zopFormat else .reserved
  | 1 =>
    match op with
    | some op => .ofShape (.sop op (.bu6 (fF w) (fB w) (fC w)))
    | none =>
      bif major4 && fA w == 0x3F#6 && fB w == 1#6 then .ofShape .sleep
      else bif major4 && fA w == 0x3F#6 && fB w == 2#6 then .ofShape .swi
      else .reserved
  | _ => .undefinedForm .sopFormat

/-- What a load reads, from ZZ and X (R159, R160). -/
def ldKind (zz : BitVec 2) (x : Bool) : Except UndefinedForm LdKind :=
  match zz.toNat with
  | 0 => bif x then .error .extendLong else .ok .long
  | 1 => .ok (.byte x)
  | 2 => .ok (.half x)
  | _ => .error .sizeReserved

/-- The write-back mode, with the reserved bits of a limm base read as 00 (R444). -/
def aaOf (b : Reg) (aa : BitVec 2) : BitVec 2 := bif isLimm b then 0#2 else aa

/-- A load whose fields are allowed (R443, R445). -/
def decodeLoad (zz : BitVec 2) (x : Bool) (form : LdForm) : Decoded :=
  match ldKind zz x with
  | .error u => .undefinedForm u
  | .ok kind =>
    match form with
    | .rr a b _ aa _ _ =>
      bif !aaFits (zz == 1#2) b aa then .undefinedForm .scaledByte
      else bif isLimm a then .undefinedForm .loadNull
      else .ofShape (.load kind form)
    | .s9 a b _ aa _ _ =>
      bif !aaFits (zz == 1#2) b aa then .undefinedForm .scaledByte
      else bif isLimm a then .undefinedForm .loadNull
      else .ofShape (.load kind form)

/-- MOV (R290), and NOP, which is `MOV 0,0` (R496). -/
def decodeMov (w limm : Word) : Decoded :=
  let form := movForm w limm
  bif form.fits then .ofShape (.mov form) else .ofShape .nop

/-- Major opcode 4 (R136 to R144). -/
def decode4 (w limm : Word) : Decoded :=
  match Sub4.ofCode (fSub w).toNat with
  | .alu op => .ofShape (.alu op (genForm w limm))
  | .test op => bif fF w then .ofShape (.test op (cmpForm w limm)) else .undefinedForm .testWithoutF
  | .mov => decodeMov w limm
  | .jump link => decodeJ w limm link
  | .jumpD link => decodeJD w link
  | .lp => decodeLp w
  | .flag => .ofShape (.flag (jForm w limm))
  | .lr => decodeLr w limm
  | .sr => decodeSr w limm
  | .sop => decodeSop w limm (SopOp.ofCode4 (fA w).toNat) true
  | .load zz x =>
    decodeLoad zz x (.rr (fA w) (fB w) (fC w) (aaOf (fB w) (fP w)) (fF w)
      (limmIf (isLimm (fB w) || isLimm (fC w)) limm))
  | .reserved => .reserved

/-- Major opcode 5 (R165, R166). -/
def decode5 (w limm : Word) : Decoded :=
  match Sub5.ofCode (fSub w).toNat with
  | .alu op => .ofShape (.alu op (genForm w limm))
  | .mul signed => .ofShape (.mul signed (cmpForm w limm))
  | .sop => decodeSop w limm (SopOp.ofCode5 (fA w).toNat) false
  | .reserved => .reserved

/-- Major opcode 0: Bcc and B (R150). -/
def decode0 (w : Word) : Decoded :=
  bif bitAt w 16 then
    .ofShape (.bfar (w.extractLsb' 0 4 ++ w.extractLsb' 6 10 ++ w.extractLsb' 17 10) (bitAt w 5))
  else .ofShape (.bcc (w.extractLsb' 6 10 ++ w.extractLsb' 17 10) (bitAt w 5) (fQ w))

/-- Compare-and-branch (R152). -/
def decodeBr (w limm : Word) : Decoded :=
  match BrOp.ofCode (w.extractLsb' 0 4).toNat with
  | none => .reserved
  | some op =>
    let s : BitVec 8 := w.extractLsb' 15 1 ++ w.extractLsb' 17 7
    let form : BrForm :=
      bif bitAt w 4 then .bu6s9 (fB w) (fC w) s (bitAt w 5) (limmIf (isLimm (fB w)) limm)
      else .bcs9 (fB w) (fC w) s (bitAt w 5) (limmIf (isLimm (fB w) || isLimm (fC w)) limm)
    bif form.fits then .ofShape (.br op form) else .undefinedForm .delayedWithLimm

/-- Major opcode 1: BLcc, BL and compare-and-branch (R151, R152). -/
def decode1 (w limm : Word) : Decoded :=
  bif bitAt w 16 then decodeBr w limm
  else bif bitAt w 17 then
    .ofShape (.bl (w.extractLsb' 0 4 ++ w.extractLsb' 6 10 ++ w.extractLsb' 18 9) (bitAt w 5))
  else .ofShape (.blcc (w.extractLsb' 6 10 ++ w.extractLsb' 18 9) (bitAt w 5) (fQ w))

/-- Major opcode 2: load with offset (R155). -/
def decode2 (w limm : Word) : Decoded :=
  decodeLoad (w.extractLsb' 7 2) (bitAt w 6)
    (.s9 (fA w) (fB w) (fS9 w) (aaOf (fB w) (w.extractLsb' 9 2)) (bitAt w 11) (limmIf (isLimm (fB w)) limm))

/-- The size of a store, from ZZ (R159). -/
def stSize (zz : BitVec 2) : Option Size :=
  match zz.toNat with
  | 0 => some .long
  | 1 => some .byte
  | 2 => some .half
  | _ => none

/-- Major opcode 3: store with offset (R156). -/
def decode3 (w limm : Word) : Decoded :=
  match stSize (w.extractLsb' 1 2) with
  | none => .undefinedForm .sizeReserved
  | some sz =>
    let aa := aaOf (fB w) (w.extractLsb' 3 2)
    bif aaFits (sz == .byte) (fB w) aa then
      .ofShape (.store sz (fC w) (fB w) (fS9 w) aa (bitAt w 5) (limmIf (isLimm (fB w) || isLimm (fC w)) limm))
    else .undefinedForm .scaledByte

/-- A 32-bit instruction word with the word that follows it (R131, R167). -/
def decode32 (w limm : Word) : Decoded :=
  match (fMajor w).toNat with
  | 0 => decode0 w
  | 1 => decode1 w limm
  | 2 => decode2 w limm
  | 3 => decode3 w limm
  | 4 => decode4 w limm
  | 5 => decode5 w limm
  | _ => .reserved

/-! ### The 16-bit formats (R170 to R187) -/

/-- The b field of a 16-bit instruction (R170). -/
def hB (h : Half) : Reg3 := h.extractLsb' 8 3
/-- The c field (R170). -/
def hC (h : Half) : Reg3 := h.extractLsb' 5 3
/-- The a field (R170). -/
def hA (h : Half) : Reg3 := h.extractLsb' 0 3
/-- The five low bits: u5, or sub-opcode 1 of major 0x0F. -/
def hU5 (h : Half) : BitVec 5 := h.extractLsb' 0 5
/-- The 6-bit register field of major 0x0E, in two parts (R170). -/
def hH (h : Half) : Reg := h.extractLsb' 0 3 ++ h.extractLsb' 5 3

/-- Major 0x0C (R171). -/
def decodeC (h : Half) : Decoded :=
  match (h.extractLsb' 3 2).toNat with
  | 0 => .ofShape (.load16 (.abc .long (hA h) (hB h) (hC h)))
  | 1 => .ofShape (.load16 (.abc .byte (hA h) (hB h) (hC h)))
  | 2 => .ofShape (.load16 (.abc .half (hA h) (hB h) (hC h)))
  | _ => .ofShape (.data16 (.addAbc (hA h) (hB h) (hC h)))

/-- Sub-opcode of major 0x0D (R172). -/
def OpU3.ofCode (n : Nat) : OpU3 :=
  match n with
  | 0 => .add
  | 1 => .sub
  | 2 => .asl
  | _ => .asr

/-- Sub-opcode of major 0x0D (R172). -/
def OpU3.code : OpU3 → BitVec 2
  | .add => 0#2
  | .sub => 1#2
  | .asl => 2#2
  | .asr => 3#2

/-- Major 0x0E (R173). -/
def decodeE (h : Half) (limm : Word) : Decoded :=
  match (h.extractLsb' 3 2).toNat with
  | 0 => .ofShape (.data16 (.addBbh (hB h) (hH h) (limmIf (isLimm (hH h)) limm)))
  | 1 => .ofShape (.data16 (.movBh (hB h) (hH h) (limmIf (isLimm (hH h)) limm)))
  | 2 => .ofShape (.data16 (.cmpBh (hB h) (hH h) (limmIf (isLimm (hH h)) limm)))
  | _ => .ofShape (.data16 (.movHb (hH h) (hB h)))

/-- Major 0x0F, sub-opcode 1 = 0, sub-opcode 2 = 7 (R176). -/
def decodeFZop (h : Half) : Decoded :=
  match (hB h).toNat with
  | 0 => .ofShape .nop16
  | 4 => .ofShape (.ctl16 (.jCond false))
  | 5 => .ofShape (.ctl16 (.jCond true))
  | 6 => .ofShape (.ctl16 (.jBlink false))
  | 7 => .ofShape (.ctl16 (.jBlink true))
  | _ => .reserved

/-- Major 0x0F, sub-opcode 1 = 0 (R175). -/
def decodeFSop (h : Half) : Decoded :=
  match (hC h).toNat with
  | 0 => .ofShape (.ctl16 (.j false false (hB h)))
  | 1 => .ofShape (.ctl16 (.j false true (hB h)))
  | 2 => .ofShape (.ctl16 (.j true false (hB h)))
  | 3 => .ofShape (.ctl16 (.j true true (hB h)))
  | 6 => .ofShape (.data16 (.subNe (hB h)))
  | 7 => decodeFZop h
  | _ => .reserved

/-- Sub-opcode 1 of major 0x0F, for an operation `op_S b,b,c` (R174). -/
def OpBbc.code : OpBbc → BitVec 5
  | .sub => 0x02#5
  | .and => 0x04#5
  | .or => 0x05#5
  | .bic => 0x06#5
  | .xor => 0x07#5
  | .add1 => 0x14#5
  | .add2 => 0x15#5
  | .add3 => 0x16#5
  | .asl => 0x18#5
  | .lsr => 0x19#5
  | .asr => 0x1A#5

/-- Sub-opcode 1 of major 0x0F, for an operation `op_S b,c` (R174). -/
def OpBc.code : OpBc → BitVec 5
  | .sexb => 0x0D#5
  | .sexw => 0x0E#5
  | .extb => 0x0F#5
  | .extw => 0x10#5
  | .abs => 0x11#5
  | .not => 0x12#5
  | .neg => 0x13#5
  | .asl => 0x1B#5
  | .asr => 0x1C#5
  | .lsr => 0x1D#5

/-- Major 0x0F (Table 7.4, R174). -/
def decodeF (h : Half) : Decoded :=
  let bbc (op : OpBbc) : Decoded := .ofShape (.data16 (.bbc op (hB h) (hC h)))
  let bc (op : OpBc) : Decoded := .ofShape (.data16 (.bc op (hB h) (hC h)))
  match (hU5 h).toNat with
  | 0x00 => decodeFSop h
  | 0x02 => bbc .sub
  | 0x04 => bbc .and
  | 0x05 => bbc .or
  | 0x06 => bbc .bic
  | 0x07 => bbc .xor
  | 0x0B => .ofShape (.data16 (.tst (hB h) (hC h)))
  | 0x0C => .ofShape (.mul16 (hB h) (hC h))
  | 0x0D => bc .sexb
  | 0x0E => bc .sexw
  | 0x0F => bc .extb
  | 0x10 => bc .extw
  | 0x11 => bc .abs
  | 0x12 => bc .not
  | 0x13 => bc .neg
  | 0x14 => bbc .add1
  | 0x15 => bbc .add2
  | 0x16 => bbc .add3
  | 0x18 => bbc .asl
  | 0x19 => bbc .lsr
  | 0x1A => bbc .asr
  | 0x1B => bc .asl
  | 0x1C => bc .asr
  | 0x1D => bc .lsr
  | 0x1F => bif h == 0x7FFF#16 then .ofShape .brk else .undefinedForm .brkFields
  | _ => .reserved

/-- Sub-opcode of major 0x17 below 7 (R178). -/
def OpU5.code : OpU5 → BitVec 3
  | .asl => 0#3
  | .lsr => 1#3
  | .asr => 2#3
  | .sub => 3#3
  | .bset => 4#3
  | .bclr => 5#3
  | .bmsk => 6#3

/-- Major 0x17 (R178). -/
def decode17 (h : Half) : Decoded :=
  let bbu5 (op : OpU5) : Decoded := .ofShape (.data16 (.bbu5 op (hB h) (hU5 h)))
  match (hC h).toNat with
  | 0 => bbu5 .asl
  | 1 => bbu5 .lsr
  | 2 => bbu5 .asr
  | 3 => bbu5 .sub
  | 4 => bbu5 .bset
  | 5 => bbu5 .bclr
  | 6 => bbu5 .bmsk
  | _ => .ofShape (.data16 (.btst (hB h) (hU5 h)))

/-- Major 0x18 (R179). -/
def decode18 (h : Half) : Decoded :=
  match (hC h).toNat with
  | 0 => .ofShape (.load16 (.sp false (hB h) (hU5 h)))
  | 1 => .ofShape (.load16 (.sp true (hB h) (hU5 h)))
  | 2 => .ofShape (.store16 (.sp false (hB h) (hU5 h)))
  | 3 => .ofShape (.store16 (.sp true (hB h) (hU5 h)))
  | 4 => .ofShape (.data16 (.addSp (hB h) (hU5 h)))
  | 5 =>
    bif hB h == 0#3 then .ofShape (.data16 (.adjSp false (hU5 h)))
    else bif hB h == 1#3 then .ofShape (.data16 (.adjSp true (hU5 h)))
    else .undefinedForm .spAdjust
  | 6 =>
    bif hU5 h == 1#5 then .ofShape (.load16 (.pop (hB h)))
    else bif hU5 h == 17#5 then .ofShape (.load16 .popBlink)
    else .undefinedForm .popPush
  | _ =>
    bif hU5 h == 1#5 then .ofShape (.store16 (.push (hB h)))
    else bif hU5 h == 17#5 then .ofShape (.store16 .pushBlink)
    else .undefinedForm .popPush

/-- Major 0x19 (R180). -/
def decode19 (h : Half) : Decoded :=
  let s : BitVec 9 := h.extractLsb' 0 9
  match (h.extractLsb' 9 2).toNat with
  | 0 => .ofShape (.load16 (.gp .long s))
  | 1 => .ofShape (.load16 (.gp .byte s))
  | 2 => .ofShape (.load16 (.gp .half s))
  | _ => .ofShape (.data16 (.addGp s))

/-- Conditions of the eight Bcc_S (Table 7.14). -/
def Cc8.ofCode (n : Nat) : Cc8 :=
  match n with
  | 0 => .gt
  | 1 => .ge
  | 2 => .lt
  | 3 => .le
  | 4 => .hi
  | 5 => .hs
  | 6 => .lo
  | _ => .ls

/-- Conditions of the eight Bcc_S (Table 7.14). -/
def Cc8.code : Cc8 → BitVec 3
  | .gt => 0#3
  | .ge => 1#3
  | .lt => 2#3
  | .le => 3#3
  | .hi => 4#3
  | .hs => 5#3
  | .lo => 6#3
  | .ls => 7#3

/-- Major 0x1E (R185). -/
def decode1E (h : Half) : Decoded :=
  let s : BitVec 9 := h.extractLsb' 0 9
  match (h.extractLsb' 9 2).toNat with
  | 0 => .ofShape (.ctl16 (.b .al s))
  | 1 => .ofShape (.ctl16 (.b .eq s))
  | 2 => .ofShape (.ctl16 (.b .ne s))
  | _ => .ofShape (.ctl16 (.bcc (Cc8.ofCode (h.extractLsb' 6 3).toNat) (h.extractLsb' 0 6)))

/-- A 16-bit instruction (R131) with the word that follows it; majors 8 to 0xB hold no instruction (R187). -/
def decode16 (h : Half) (limm : Word) : Decoded :=
  match (h.extractLsb' 11 5).toNat with
  | 0x0C => decodeC h
  | 0x0D => .ofShape (.data16 (.cbu3 (OpU3.ofCode (h.extractLsb' 3 2).toNat) (hC h) (hB h) (hA h)))
  | 0x0E => decodeE h limm
  | 0x0F => decodeF h
  | 0x10 => .ofShape (.load16 (.cbu .long (hC h) (hB h) (hU5 h)))
  | 0x11 => .ofShape (.load16 (.cbu .byte (hC h) (hB h) (hU5 h)))
  | 0x12 => .ofShape (.load16 (.cbu .half (hC h) (hB h) (hU5 h)))
  | 0x13 => .ofShape (.load16 (.cbuX (hC h) (hB h) (hU5 h)))
  | 0x14 => .ofShape (.store16 (.cbu .long (hC h) (hB h) (hU5 h)))
  | 0x15 => .ofShape (.store16 (.cbu .byte (hC h) (hB h) (hU5 h)))
  | 0x16 => .ofShape (.store16 (.cbu .half (hC h) (hB h) (hU5 h)))
  | 0x17 => decode17 h
  | 0x18 => decode18 h
  | 0x19 => decode19 h
  | 0x1A => .ofShape (.load16 (.pcl (hB h) (h.extractLsb' 0 8)))
  | 0x1B => .ofShape (.data16 (.movU8 (hB h) (h.extractLsb' 0 8)))
  | 0x1C =>
    bif bitAt h 7 then .ofShape (.data16 (.cmpU7 (hB h) (h.extractLsb' 0 7)))
    else .ofShape (.data16 (.addU7 (hB h) (h.extractLsb' 0 7)))
  | 0x1D => .ofShape (.ctl16 (.br (bitAt h 7) (hB h) (h.extractLsb' 0 7)))
  | 0x1E => decode1E h
  | 0x1F => .ofShape (.ctl16 (.bl (h.extractLsb' 0 11)))
  | _ => .reserved

/-! ### Instructions in memory -/

/-- Whether the first half-word of an instruction is that of a 32-bit one (R130). -/
def isWide (h0 : Half) : Bool := h0.toNat / 2048 < 8

/-- Decode from the first half-word, the second (used by 32-bit instructions) and the long immediate (used where a source
field asks for it) (R201). -/
def decodeHalves (h0 h1 : Half) (limm : Word) : Decoded :=
  bif isWide h0 then decode32 (h0 ++ h1) limm else decode16 h0 limm

/-- The half-words of a list of bytes, each little-endian; `none` for an odd number of bytes (R97). -/
def halvesOf : List Byte → Option (List Half)
  | [] => some []
  | [_] => none
  | lo :: hi :: rest => (halvesOf rest).map ((hi ++ lo : Half) :: ·)

/-- The base length by the major opcode, the long immediate of the instruction that stands there, then its decoding. -/
def decodeList (halves : List Half) : Decoded :=
  let finish (h0 h1 : Half) (rest : List Half) : Decoded :=
    match decodeHalves h0 h1 0#32 with
    | .ok i =>
      bif i.hasLimm then
        match rest with
        | l0 :: l1 :: _ => decodeHalves h0 h1 (l0 ++ l1)
        | _ => .truncated
      else .ok i
    | d => d
  match halves with
  | [] => .truncated
  | [h0] => bif isWide h0 then .truncated else finish h0 0#16 []
  | h0 :: h1 :: rest => bif isWide h0 then finish h0 h1 rest else finish h0 0#16 (h1 :: rest)

/-- Decode the instruction at the start of a list of bytes, as they stand in memory (R97 to R99, R201). -/
def decodeBytes (bytes : List Byte) : Decoded :=
  match halvesOf bytes with
  | some halves => decodeList halves
  | none => .truncated

/-! ### Encoding -/

/-- The layout of majors 4 to 7 (R132). -/
def packGen (major : BitVec 5) (sub : BitVec 6) (p : BitVec 2) (f : Bool) (b c a : BitVec 6) : Word :=
  major ++ b.extractLsb' 0 3 ++ p ++ sub ++ BitVec.ofBool f ++ b.extractLsb' 3 3 ++ c ++ a

/-- The layout with a 12-bit immediate (R136). -/
def packS12 (major : BitVec 5) (sub : BitVec 6) (f : Bool) (b : Reg) (s : BitVec 12) : Word :=
  packGen major sub 2#2 f b (s.extractLsb' 0 6) (s.extractLsb' 6 6)

/-- The layout with a condition code, bit 5 telling u6 from a register (R136). -/
def packCc (major : BitVec 5) (sub : BitVec 6) (f : Bool) (b c : BitVec 6) (imm : Bool) (q : BitVec 5) : Word :=
  packGen major sub 3#2 f b c (BitVec.ofBool imm ++ q)

/-- A general format (R136). -/
def encodeGen (major : BitVec 5) (sub : BitVec 6) : GenForm → Word
  | .abc f a b c _ => packGen major sub 0#2 f b c a
  | .abu6 f a b u _ => packGen major sub 1#2 f b u a
  | .bbs12 f b s _ => packS12 major sub f b s
  | .ccbbc f b c q _ => packCc major sub f b c false q
  | .ccbbu6 f b u q _ => packCc major sub f b u true q

/-- A format without destination, with the F bit it has (1 for TST, CMP, RCMP, BTST; 0 for the multiplies) and the A field
(R141, R540). -/
def encodeCmp (major : BitVec 5) (sub : BitVec 6) (f : Bool) (a : BitVec 6) : CmpForm → Word
  | .bc b c _ => packGen major sub 0#2 f b c a
  | .bu6 b u _ => packGen major sub 1#2 f b u a
  | .bs12 b s _ => packS12 major sub f b s
  | .ccbc b c q _ => packCc major sub f b c false q
  | .ccbu6 b u q _ => packCc major sub f b u true q

/-- MOV (R290). -/
def encodeMov : MovForm → Word
  | .bc f b c _ => packGen 4#5 0x0A#6 0#2 f b c 0#6
  | .bu6 f b u => packGen 4#5 0x0A#6 1#2 f b u 0#6
  | .bs12 f b s => packS12 4#5 0x0A#6 f b s
  | .ccbc f b c q _ => packCc 4#5 0x0A#6 f b c false q
  | .ccbu6 f b u q => packCc 4#5 0x0A#6 f b u true q

/-- A single-operand format (R142). -/
def encodeSop (op : SopOp) : SopForm → Word
  | .bc f b r _ => packGen op.code.1 0x2F#6 0#2 f b r op.code.2
  | .bu6 f b u => packGen op.code.1 0x2F#6 1#2 f b u op.code.2

/-- J, JL, FLAG (R400, R405, R492). -/
def encodeJ (sub : BitVec 6) : JForm → Word
  | .c r _ => packGen 4#5 sub 0#2 false 0#6 r 0#6
  | .u6 u => packGen 4#5 sub 1#2 false 0#6 u 0#6
  | .s12 s => packS12 4#5 sub false 0#6 s
  | .ccc r q _ => packCc 4#5 sub false 0#6 r false q
  | .ccu6 u q => packCc 4#5 sub false 0#6 u true q

/-- J.D, JL.D (R400, R405). -/
def encodeJD (sub : BitVec 6) : JDForm → Word
  | .c r => packGen 4#5 sub 0#2 false 0#6 r 0#6
  | .u6 u => packGen 4#5 sub 1#2 false 0#6 u 0#6
  | .s12 s => packS12 4#5 sub false 0#6 s
  | .ccc r q => packCc 4#5 sub false 0#6 r false q
  | .ccu6 u q => packCc 4#5 sub false 0#6 u true q

/-- `Jcc.F` (R401). -/
def encodeJF : JFForm → Word
  | .c l d => packGen 4#5 (bif d then 0x21#6 else 0x20#6) 0#2 true 0#6 (bif l then 30#6 else 29#6) 0#6
  | .ccc l d q => packCc 4#5 (bif d then 0x21#6 else 0x20#6) true 0#6 (bif l then 30#6 else 29#6) false q

/-- LP (R420). -/
def encodeLp : LpForm → Word
  | .s13 s => packS12 4#5 0x28#6 false 0#6 s
  | .ccu7 u q => packCc 4#5 0x28#6 false 0#6 u true q

/-- LR (R490). -/
def encodeLr : LrForm → Word
  | .bc b c _ => packGen 4#5 0x2A#6 0#2 false b c 0#6
  | .bs12 b s => packS12 4#5 0x2A#6 false b s

/-- SR (R491). -/
def encodeSr : SrForm → Word
  | .bc b c _ => packGen 4#5 0x2B#6 0#2 false b c 0#6
  | .bs12 b s _ => packS12 4#5 0x2B#6 false b s

/-- ZZ and X of a load (R159, R160). -/
def LdKind.code : LdKind → BitVec 2 × Bool
  | .long => (0#2, false)
  | .byte x => (1#2, x)
  | .half x => (2#2, x)

/-- A 32-bit load (R144, R155). -/
def encodeLd (kind : LdKind) : LdForm → Word
  | .rr a b c aa di _ =>
    packGen 4#5 (6#3 ++ kind.code.1 ++ BitVec.ofBool kind.code.2 : BitVec 6) aa di b c a
  | .s9 a b s aa di _ =>
    2#5 ++ b.extractLsb' 0 3 ++ s.extractLsb' 0 8 ++ s.extractLsb' 8 1 ++ b.extractLsb' 3 3 ++ BitVec.ofBool di ++ aa ++
      kind.code.1 ++ BitVec.ofBool kind.code.2 ++ a

/-- ZZ of a store (R159). -/
def Size.code : Size → BitVec 2
  | .long => 0#2
  | .byte => 1#2
  | .half => 2#2

/-- A 32-bit store (R156). -/
def encodeSt (sz : Size) (c b : Reg) (s : BitVec 9) (aa : BitVec 2) (di : Bool) : Word :=
  3#5 ++ b.extractLsb' 0 3 ++ s.extractLsb' 0 8 ++ s.extractLsb' 8 1 ++ b.extractLsb' 3 3 ++ c ++ BitVec.ofBool di ++ aa ++
    sz.code ++ 0#1

/-- Compare-and-branch (R152). -/
def encodeBr (op : BrOp) (form : BrForm) : Word :=
  let pack (b c : BitVec 6) (s : BitVec 8) (n imm : Bool) : Word :=
    1#5 ++ b.extractLsb' 0 3 ++ s.extractLsb' 0 7 ++ 1#1 ++ s.extractLsb' 7 1 ++ b.extractLsb' 3 3 ++ c ++
      BitVec.ofBool n ++ BitVec.ofBool imm ++ op.code
  match form with
  | .bcs9 b c s n _ => pack b c s n false
  | .bu6s9 b u s n _ => pack b u s n true

/-- The word of a 32-bit instruction; 0 for a 16-bit one, which has none. -/
def encode32 : Shape → Word
  | .alu op form => encodeGen op.code.1 op.code.2 form
  | .test op form => encodeCmp 4#5 op.code true 0#6 form
  | .mul signed form => encodeCmp 5#5 (bif signed then 4#6 else 5#6) false 62#6 form
  | .mov form => encodeMov form
  | .nop => encodeMov (.bu6 false 62#6 0#6)
  | .sop op form => encodeSop op form
  | .jump link form => encodeJ (bif link then 0x22#6 else 0x20#6) form
  | .jumpD link form => encodeJD (bif link then 0x23#6 else 0x21#6) form
  | .jumpF form => encodeJF form
  | .lp form => encodeLp form
  | .flag form => encodeJ 0x29#6 form
  | .lr form => encodeLr form
  | .sr form => encodeSr form
  | .sleep => packGen 4#5 0x2F#6 1#2 false 1#6 0#6 0x3F#6
  | .swi => packGen 4#5 0x2F#6 1#2 false 2#6 0#6 0x3F#6
  | .load kind form => encodeLd kind form
  | .store sz c b s aa di _ => encodeSt sz c b s aa di
  | .bcc s n q => 0#5 ++ s.extractLsb' 0 10 ++ 0#1 ++ s.extractLsb' 10 10 ++ BitVec.ofBool n ++ q
  | .bfar s n => 0#5 ++ s.extractLsb' 0 10 ++ 1#1 ++ s.extractLsb' 10 10 ++ BitVec.ofBool n ++ 0#1 ++ s.extractLsb' 20 4
  | .blcc s n q => 1#5 ++ s.extractLsb' 0 9 ++ 0#2 ++ s.extractLsb' 9 10 ++ BitVec.ofBool n ++ q
  | .bl s n => 1#5 ++ s.extractLsb' 0 9 ++ 2#2 ++ s.extractLsb' 9 10 ++ BitVec.ofBool n ++ 0#1 ++ s.extractLsb' 19 4
  | .br op form => encodeBr op form
  | .load16 _ | .store16 _ | .data16 _ | .mul16 .. | .ctl16 _ | .nop16 | .brk => 0#32

/-- The layout `IIIIIbbbcccuuuuu` (R170, R177). -/
def pack16 (major : BitVec 5) (b c : Reg3) (low : BitVec 5) : Half := major ++ b ++ c ++ low

/-- A 16-bit load (R171, R177, R179 to R181). -/
def encodeLd16 : Ld16 → Half
  | .abc .long a b c => pack16 0x0C#5 b c (0#2 ++ a)
  | .abc .byte a b c => pack16 0x0C#5 b c (1#2 ++ a)
  | .abc .half a b c => pack16 0x0C#5 b c (2#2 ++ a)
  | .cbu .long c b u => pack16 0x10#5 b c u
  | .cbu .byte c b u => pack16 0x11#5 b c u
  | .cbu .half c b u => pack16 0x12#5 b c u
  | .cbuX c b u => pack16 0x13#5 b c u
  | .sp byte b u => pack16 0x18#5 b (bif byte then 1#3 else 0#3) u
  | .gp .long s => 0x19#5 ++ 0#2 ++ s
  | .gp .byte s => 0x19#5 ++ 1#2 ++ s
  | .gp .half s => 0x19#5 ++ 2#2 ++ s
  | .pcl b u => 0x1A#5 ++ b ++ u
  | .pop b => pack16 0x18#5 b 6#3 1#5
  | .popBlink => pack16 0x18#5 0#3 6#3 17#5

/-- A 16-bit store (R177, R179). -/
def encodeSt16 : St16 → Half
  | .cbu .long c b u => pack16 0x14#5 b c u
  | .cbu .byte c b u => pack16 0x15#5 b c u
  | .cbu .half c b u => pack16 0x16#5 b c u
  | .sp byte b u => pack16 0x18#5 b (bif byte then 3#3 else 2#3) u
  | .push b => pack16 0x18#5 b 7#3 1#5
  | .pushBlink => pack16 0x18#5 0#3 7#3 17#5

/-- The layout of major 0x0E (R173). -/
def packH (b : Reg3) (h : Reg) (i : BitVec 2) : Half := pack16 0x0E#5 b (h.extractLsb' 0 3) (i ++ h.extractLsb' 3 3)

/-- The 16-bit data instructions (R171 to R174, R178 to R180, R182, R183). -/
def encodeData16 : Data16 → Half
  | .addAbc a b c => pack16 0x0C#5 b c (3#2 ++ a)
  | .cbu3 op c b u => pack16 0x0D#5 b c (op.code ++ u)
  | .addBbh b h _ => packH b h 0#2
  | .movBh b h _ => packH b h 1#2
  | .cmpBh b h _ => packH b h 2#2
  | .movHb h b => packH b h 3#2
  | .bbc op b c => pack16 0x0F#5 b c op.code
  | .tst b c => pack16 0x0F#5 b c 0x0B#5
  | .bc op b c => pack16 0x0F#5 b c op.code
  | .bbu5 op b u => pack16 0x17#5 b op.code u
  | .btst b u => pack16 0x17#5 b 7#3 u
  | .addSp b u => pack16 0x18#5 b 4#3 u
  | .adjSp sub u => pack16 0x18#5 (bif sub then 1#3 else 0#3) 5#3 u
  | .addGp s => 0x19#5 ++ 3#2 ++ s
  | .movU8 b u => 0x1B#5 ++ b ++ u
  | .addU7 b u => 0x1C#5 ++ b ++ 0#1 ++ u
  | .cmpU7 b u => 0x1C#5 ++ b ++ 1#1 ++ u
  | .subNe b => pack16 0x0F#5 b 6#3 0#5

/-- The 16-bit branches and jumps (R175, R176, R184 to R186). -/
def encodeCtl16 : Ctl16 → Half
  | .j link d b => pack16 0x0F#5 b (0#1 ++ BitVec.ofBool link ++ BitVec.ofBool d) 0#5
  | .jBlink d => pack16 0x0F#5 (bif d then 7#3 else 6#3) 7#3 0#5
  | .jCond ne => pack16 0x0F#5 (bif ne then 5#3 else 4#3) 7#3 0#5
  | .br ne b s => 0x1D#5 ++ b ++ BitVec.ofBool ne ++ s
  | .b .al s => 0x1E#5 ++ 0#2 ++ s
  | .b .eq s => 0x1E#5 ++ 1#2 ++ s
  | .b .ne s => 0x1E#5 ++ 2#2 ++ s
  | .bcc cond s => 0x1E#5 ++ 3#2 ++ cond.code ++ s
  | .bl s => 0x1F#5 ++ s

/-- The half-word of a 16-bit instruction; 0 for a 32-bit one, which has none. -/
def encode16 : Shape → Half
  | .load16 form => encodeLd16 form
  | .store16 form => encodeSt16 form
  | .data16 form => encodeData16 form
  | .mul16 b c => pack16 0x0F#5 b c 0x0C#5
  | .ctl16 form => encodeCtl16 form
  | .nop16 => 0x78E0#16
  | .brk => 0x7FFF#16
  | .alu .. | .test .. | .mul .. | .mov _ | .nop | .sop .. | .jump .. | .jumpD .. | .jumpF _ | .lp _ | .flag _ | .lr _
  | .sr _ | .sleep | .swi | .load .. | .store .. | .bcc .. | .bfar .. | .blcc .. | .bl .. | .br .. => 0#16

/-- The two half-words of a long word as instruction data: the upper one first (R98, R99). -/
def halvesOfWord (w : Word) : List Half := [w.extractLsb' 16 16, w.extractLsb' 0 16]

/-- The half-words of an instruction in the order of their addresses: instruction word, then long immediate. -/
def encode (i : Instr) : List Half :=
  (bif i.shape.isShort then [encode16 i.shape] else halvesOfWord (encode32 i.shape)) ++
    (bif i.hasLimm then halvesOfWord i.shape.limmPart.2 else [])

/-- The bytes of half-words as they stand in memory, each half-word little-endian (R97). -/
def bytesOfHalves : List Half → List Byte
  | [] => []
  | h :: rest => h.extractLsb' 0 8 :: h.extractLsb' 8 8 :: bytesOfHalves rest

/-- The bytes of an instruction as they stand in memory. -/
def encodeBytes (i : Instr) : List Byte := bytesOfHalves (encode i)

/-! ### The rows of the opcode table -/

/-- The first four half-words of an instruction whose table word is `w`: a 32-bit word is numbered as one long word, its
upper half-word first in memory; a 16-bit one is one half-word; everything above is 0 (log 48). -/
def tableHalves (nbits w : Nat) : List Half :=
  bif nbits ≤ 16 then [BitVec.ofNat 16 w, 0#16, 0#16, 0#16]
  else halvesOfWord (BitVec.ofNat 32 w) ++ [0#16, 0#16]

/-- The instruction the decoder reads from an instruction whose bits are `w`. -/
def decodeTableWord (nbits w : Nat) : Option Instr :=
  match decodeBytes (bytesOfHalves (tableHalves nbits w)) with
  | .ok i => some i
  | .reserved | .undefinedForm _ | .truncated => none

end Sys2Proof
end

