-- ==== Sys2Proof/Machine/State.lean ====
section
/-! DEFINITION. The state of the machine (10_state.md; INVENTORY.md lists every field with its rule), the reasons a step can
stop, and reset (10_state.md R80, 70_reset_and_hazards.md R630). -/

namespace Sys2Proof.Machine

/-- The four arithmetic flags (10_state.md R33). -/
structure Flags where
  z : Bool
  n : Bool
  c : Bool
  v : Bool
deriving DecidableEq, Repr

/-- Memory: the cells that do not read as an unlisted byte, addresses strictly rising (`Memory.wf`). -/
abbrev Memory := List Host.Cell

/-- The machine. -/
structure State where
  /-- r0 to r56 (R20, R29); r32 to r56 exist as `cfg.extCore` says -/
  regs : Vector Word 57
  /-- r60, LP_COUNT (R25) -/
  lpCount : Word
  /-- the 64-bit multiply result: MLO, MMID, MHI are its parts (46_extensions.md R535) -/
  mulres : BitVec 64
  /-- the program counter (R32) -/
  pc : Word
  /-- Z N C V (R34) -/
  flags : Flags
  /-- level 1 interrupt enable (R34) -/
  e1 : Bool
  /-- level 2 interrupt enable (R34) -/
  e2 : Bool
  /-- halt (R34, R61) -/
  h : Bool
  /-- STATUS32_L1 (R49) -/
  statusL1 : Word
  /-- STATUS32_L2 (R50) -/
  statusL2 : Word
  /-- the semaphore bits the processor owns (R43) -/
  semCpu : Word
  /-- the semaphore bits the host owns (R43) -/
  semHost : Word
  /-- LP_START (R44) -/
  lpStart : Word
  /-- LP_END (R45) -/
  lpEnd : Word
  /-- INT_VECTOR_BASE (R51) -/
  intVectorBase : Word
  /-- the extension auxiliary registers, in the order of `cfg.extAux` (00_scope.md R7; log 7) -/
  auxExt : List Word
  /-- DEBUG.SH (R46) -/
  sh : Bool
  /-- DEBUG.BH (R46) -/
  bh : Bool
  /-- DEBUG.ZZ (R46) -/
  zz : Bool
  /-- whether a load has executed since reset: DEBUG.LD is 0 until then (70_reset_and_hazards.md R640) -/
  loadSeen : Bool
  /-- the pending target of a taken `.D` transfer (R62) -/
  delayTarget : Option Word
  /-- the previous instruction was a `.D` form, taken or not (R62) -/
  prevDslot : Bool
  /-- the previous instruction was a compare-and-branch (R62) -/
  prevCmpBranch : Bool
  /-- the previous instruction was a FLAG (R62) -/
  prevFlag : Bool
  /-- the previous instruction was an SR to STATUS32_L1 or STATUS32_L2 (R655) -/
  prevSrStatusL : Bool
  /-- NOPs still required after a halting FLAG, 0 to 3 (R656) -/
  haltShadow : Nat
  /-- instruction words since LP_COUNT was written, 0 to 4 (R652) -/
  lpcAge : Nat
  /-- instruction words since SR wrote LP_START or LP_END, 0 to 3 (R653) -/
  lpseAge : Nat
  /-- a multiply may still be running (R645) -/
  mulBusy : Bool
  /-- a host's single instruction step is being executed (45_aux_system.md R493, 60_exceptions.md R616) -/
  singleStep : Bool
  /-- the interrupt lines that request, an input (R63) -/
  pending : List Nat
  /-- the model's own counter of free values (log 4) -/
  draw : Nat
  /-- the memory (20_memory.md R90) -/
  mem : Memory
  /-- the parameters of the implementation (00_scope.md R7) -/
  cfg : Config
deriving DecidableEq, Repr

/-- No stop of this machine is a fault: the exceptions of the manual (Memory Error, Instruction Error) are taken, and there
is no other (60_exceptions.md R561). -/
inductive Fault where
deriving DecidableEq, Repr

/-- Why a step has no next state: the cases to which the manual gives no behaviour and the spec says "refuse". All safe:
nothing is claimed of the machine beyond them. -/
inductive Refusal where
  /-- An instruction without a meaning: raised by no instruction of this model. Safe. -/
  | notModelled (mnemonic : String)
  /-- A combination of fields the manual leaves undefined (30_encoding.md R200 (c), D8, D20): raised by `step`. Safe. -/
  | undefinedEncoding (u : UndefinedForm)
  /-- A data access not aligned to its size (20_memory.md R93, D2): raised by loads and stores. Safe. -/
  | misaligned
  /-- A read of r61 (10_state.md R26, D9): raised by any instruction with a register operand. Safe. -/
  | reservedRegister
  /-- Not a NOP within three instructions of a halting FLAG, or an interrupt there (70_reset_and_hazards.md R656, D34):
  raised by every instruction but NOP and NOP_S, and by `step`. Safe. -/
  | haltShadow
  /-- A long immediate in a delay slot (43_branch_jump_loop.md R373, D21): raised by any instruction with one. Safe. -/
  | limmInDelaySlot
  /-- A branch, jump or LP directly after a `.D` form (R375, D8): raised by those. Safe. -/
  | branchInDelaySlot
  /-- BRK_S in a delay slot (45_aux_system.md R495, D8): raised by BRK_S. Safe. -/
  | breakInDelaySlot
  /-- SWI in a delay slot (45_aux_system.md R494, D27): raised by SWI. Safe. -/
  | swiInDelaySlot
  /-- SLEEP or SWI directly after a compare-and-branch (R493, R494, D8): raised by those. Safe. -/
  | afterCompareBranch
  /-- J.F directly after FLAG or an SR to a status link register (70_reset_and_hazards.md R655): raised by J.F. Safe. -/
  | returnTooSoon
  /-- SR to MULHI while a multiply may be running (R645): raised by SR. Safe. -/
  | mulHiBusy
  /-- A load into LP_COUNT (44_load_store.md R443): raised by the 32-bit loads. Safe. -/
  | loadToLpCount
  /-- The end of a loop less than four words after a write of LP_COUNT (R652): raised by any instruction. Safe. -/
  | loopCountTooLate
  /-- The end of a loop less than three words after an SR to LP_START or LP_END (R653): raised by any instruction. Safe. -/
  | loopBoundsTooLate
  /-- An instruction in a slot of a loop where its kind may not stand (43_branch_jump_loop.md R427): raised by branches,
  jumps, LP and SR. Safe. -/
  | loopSlot
  /-- LP for a loop of fewer than two instruction words (R426): raised by LP. Safe. -/
  | loopTooShort
deriving DecidableEq, Repr

/-- The result of one step. -/
abbrev Result := Host.Outcome State Fault Refusal

/-- The machine right after a hard reset, with the given parameters (R80, R630). Registers the manual does not initialise
are 0 (logs 2 and 3); memory lists nothing (log 1). -/
def State.resetWith (cfg : Config) : State where
  regs := Vector.replicate 57 0#32
  lpCount := 0#32
  mulres := 0#64
  pc := cfg.intVectorBaseReset
  flags := ⟨false, false, false, false⟩
  e1 := false
  e2 := false
  h := false
  statusL1 := 0#32
  statusL2 := 0#32
  semCpu := 0#32
  semHost := 0#32
  lpStart := 0#32
  lpEnd := 0#32
  intVectorBase := cfg.intVectorBaseReset
  auxExt := List.replicate cfg.extAux.length 0#32
  sh := false
  bh := false
  zz := false
  loadSeen := false
  delayTarget := none
  prevDslot := false
  prevCmpBranch := false
  prevFlag := false
  prevSrStatusL := false
  haltShadow := 0
  lpcAge := 4
  lpseAge := 3
  mulBusy := false
  singleStep := false
  pending := []
  draw := 0
  mem := []
  cfg := cfg

/-- The machine right after reset, with the default parameters (92_eei_decisions.md section 1). -/
def State.reset : State := State.resetWith Config.default

end Sys2Proof.Machine
end

