-- ==== Sys2Proof/Machine/Ops.lean ====
section
/-! DEFINITION. The operations shared by the instructions: memory, core registers, auxiliary registers, the status register,
taking an exception and returning from one, and the end of every instruction (the next pc, the zero-overhead loop and the
hazard counters). -/

namespace Sys2Proof.Machine

/-! ### Memory (20_memory.md) -/

/-- What a byte of memory that nothing has written reads as: DESIGN CHOICE (log 1). Unsafe. -/
def unlistedByte : Byte := 0#8

/-- The canonical form: addresses strictly rising and below 2^32, and no cell equal to what an unlisted address reads as. -/
def Memory.wf (m : Memory) : Bool :=
  decide (m.Pairwise fun x y => x.1 < y.1) && m.all fun x => decide (x.1 < 2 ^ 32) && x.2 != unlistedByte

/-- One byte of memory (R90). -/
def readCell : Memory → Nat → Byte
  | [], _ => unlistedByte
  | (k, b) :: m, a => bif k == a then b else readCell m a

/-- Write one byte, keeping the canonical form. -/
def writeCell : Memory → Nat → Byte → Memory
  | [], a, b => bif b == unlistedByte then [] else [(a, b)]
  | (k, c) :: m, a, b =>
    bif decide (k < a) then (k, c) :: writeCell m a b
    else bif k == a then (bif b == unlistedByte then m else (a, b) :: m)
    else bif b == unlistedByte then (k, c) :: m
    else (a, b) :: (k, c) :: m

/-- The byte at an address. -/
def State.readByte (s : State) (a : Word) : Byte := readCell s.mem a.toNat

/-- Write the byte at an address. -/
def State.writeByte (s : State) (a : Word) (b : Byte) : State := { s with mem := writeCell s.mem a.toNat b }

/-- Whether an access of a kind is not allowed in a region. -/
def regionExcludes (r : InvalidRegion) (kind : AccessKind) (a : Nat) : Bool :=
  decide (r.base ≤ a) && decide (a < r.base + r.size) &&
    match kind with
    | .fetch => r.noFetch
    | .load => r.noLoad
    | .store => r.noStore

/-- `MEM_VALID` for one byte (R90). -/
def memValid (cfg : Config) (kind : AccessKind) (a : Nat) : Bool :=
  cfg.invalidMemory.all fun r => !regionExcludes r kind a

/-- The number of bytes of a data size (44_load_store.md R442). -/
def sizeBytes : Size → Nat
  | .long => 4
  | .byte => 1
  | .half => 2

/-- `MEM_VALID` for the `n` bytes from an address (R94, R95, R97). -/
def State.validFrom (s : State) (kind : AccessKind) (a : Word) (n : Nat) : Bool :=
  (List.range n).all fun i => memValid s.cfg kind (a + BitVec.ofNat 32 i).toNat

/-- The alignment of data accesses (R93). -/
def isAligned (sz : Size) (a : Word) : Bool :=
  match sz with
  | .long => a.extractLsb' 0 2 == 0#2
  | .half => a.extractLsb' 0 1 == 0#1
  | .byte => true

/-- The little-endian value of a size at an address, zero-extended (R91, R94). -/
def State.readData (s : State) (sz : Size) (a : Word) : Word :=
  match sz with
  | .byte => (s.readByte a).setWidth 32
  | .half => (s.readByte (a + 1) ++ s.readByte a : BitVec 16).setWidth 32
  | .long => s.readByte (a + 3) ++ s.readByte (a + 2) ++ s.readByte (a + 1) ++ s.readByte a

/-- Store the low bytes of a value at an address, little-endian (R92, R95). -/
def State.writeData (s : State) (sz : Size) (a : Word) (v : Word) : State :=
  match sz with
  | .byte => s.writeByte a (v.extractLsb' 0 8)
  | .half => (s.writeByte a (v.extractLsb' 0 8)).writeByte (a + 1) (v.extractLsb' 8 8)
  | .long =>
    (((s.writeByte a (v.extractLsb' 0 8)).writeByte (a + 1) (v.extractLsb' 8 8)).writeByte (a + 2)
      (v.extractLsb' 16 8)).writeByte (a + 3) (v.extractLsb' 24 8)

/-- `Fetch16` (R97): a half-word of the instruction stream, `none` where `MEM_VALID` fails. -/
def State.fetch16 (s : State) (a : Word) : Option Half :=
  bif s.validFrom .fetch a 2 then some (s.readByte (a + 1) ++ s.readByte a) else none

/-! ### Free values (log 4) -/

/-- A free value of the instruction being executed: `slot` tells the free values of one instruction apart (log 45). Slots:
0 and 1 the operands, 2 LP_COUNT after an early exit, 3 the flag V of RLC, 4 the link value, 5 an auxiliary register. -/
def State.free (s : State) (slot : Nat) : Word := Config.freeWord s.draw slot

/-- A value whose bits under `mask` are free (D11). -/
def freeUnder (mask v f : Word) : Word := (v &&& ~~~mask) ||| (f &&& mask)

/-! ### The length of the instruction being executed -/

/-- The length of an instruction: 2 or 4 bytes, and 4 more with a long immediate (30_encoding.md R133). -/
structure Len where
  short : Bool
  limm : Bool
deriving DecidableEq, Repr

/-- The base length in bytes. -/
def Len.base (l : Len) : Word := bif l.short then 2#32 else 4#32

/-- The length in bytes. -/
def Len.bytes (l : Len) : Word := l.base + bif l.limm then 4#32 else 0#32

/-- The instruction words it occupies (D24). -/
def Len.words (l : Len) : Nat := bif l.limm then 2 else 1

/-- `npc`: the address after the instruction (43_branch_jump_loop.md R370). -/
def State.npc (s : State) (l : Len) : Word := s.pc + l.bytes

/-- `pcl`: the aligned address of the instruction (10_state.md R28). -/
def State.pcl (s : State) : Word := s.pc &&& 0xFFFFFFFC#32

/-! ### Core registers (10_state.md R30, R31) -/

/-- The stored register `n` of r0 to r56. -/
def State.reg (s : State) (n : Nat) : Word := (s.regs[n]?).getD 0#32

/-- Store into register `n` of r0 to r56. -/
def State.setReg (s : State) (n : Nat) (v : Word) : State := { s with regs := s.regs.setIfInBounds n v }

/-- Whether a register is one of the multiply results MLO, MMID, MHI (R29). -/
def isMulReg (cfg : Config) (r : Reg) : Bool := cfg.hasMul64 && (r == 57#6 || r == 58#6 || r == 59#6)

/-- Whether an extension core register of r32 to r56 exists; r57 to r59 exist only as the multiply results (R29, R30). -/
def isExtCore (cfg : Config) (r : Reg) : Bool := decide (r.toNat < 57) && cfg.extCore.contains r

/-- A source register field (R30): the value, or a refusal for r61. `l` is the length of the instruction that reads, for
the last slot of a loop (70_reset_and_hazards.md R654); `slot` numbers the free value of an unimplemented register. -/
def State.readCore (s : State) (l : Len) (slot : Nat) (r : Reg) (limm : Word) : Except Refusal Word :=
  bif decide (r.toNat < 32) then .ok (s.reg r.toNat)
  else bif isMulReg s.cfg r then
    .ok (bif r == 57#6 then s.mulres.extractLsb' 0 32
      else bif r == 58#6 then s.mulres.extractLsb' 16 32 else s.mulres.extractLsb' 32 32)
  else bif decide (r.toNat < 60) then
    .ok (bif isExtCore s.cfg r then s.reg r.toNat else s.free slot)
  else bif r == 60#6 then .ok (bif s.lpcAge == 0 || s.npc l == s.lpEnd then s.free slot else s.lpCount)
  else bif r == 61#6 then .error .reservedRegister
  else bif r == 62#6 then .ok limm
  else .ok s.pcl

/-- A destination register field (R31): r57 to r59, 61, 62, 63 and registers that do not exist discard. That every extension
core register r32 to r56 that exists is writable is a DESIGN CHOICE (log 49): R31 leaves it to the implementation. -/
def State.writeCore (s : State) (r : Reg) (v : Word) : State :=
  bif decide (r.toNat < 32) then s.setReg r.toNat v
  else bif decide (r.toNat < 60) then (bif isExtCore s.cfg r then s.setReg r.toNat v else s)
  else bif r == 60#6 then { s with lpCount := v }
  else s

/-! ### The status register (10_state.md R34, R36, R37) -/

/-- STATUS32, with its reserved bits 0. -/
def State.status32 (s : State) : Word :=
  0#20 ++ BitVec.ofBool s.flags.z ++ BitVec.ofBool s.flags.n ++ BitVec.ofBool s.flags.c ++ BitVec.ofBool s.flags.v ++ 0#5 ++
    BitVec.ofBool s.e2 ++ BitVec.ofBool s.e1 ++ BitVec.ofBool s.h

/-- The flags held in a status value, bits 11 to 8. -/
def flagsOf (v : Word) : Flags := ⟨bitAt v 11, bitAt v 10, bitAt v 9, bitAt v 8⟩

/-- Load Z N C V E2 E1 from a status value; H stays (R492, R401). -/
def State.setStatus (s : State) (v : Word) : State :=
  { s with flags := flagsOf v, e2 := bitAt v 2, e1 := bitAt v 1 }

/-- The stored bits of STATUS32_L1 and STATUS32_L2 (R49). -/
def statusLMask : Word := 0x00000F06#32

/-- The sixteen condition codes (Table 8.1, R36). -/
def baseCond (q : Nat) (f : Flags) : Bool :=
  match q with
  | 0x0 => true
  | 0x1 => f.z
  | 0x2 => !f.z
  | 0x3 => !f.n
  | 0x4 => f.n
  | 0x5 => f.c
  | 0x6 => !f.c
  | 0x7 => f.v
  | 0x8 => !f.v
  | 0x9 => (f.n && f.v && !f.z) || (!f.n && !f.v && !f.z)
  | 0xA => (f.n && f.v) || (!f.n && !f.v)
  | 0xB => (f.n && !f.v) || (!f.n && f.v)
  | 0xC => f.z || (f.n && !f.v) || (!f.n && f.v)
  | 0xD => !f.c && !f.z
  | 0xE => f.c || f.z
  | _ => !f.n && !f.z

/-- The truth table of an extension condition, at `Z N C V` read as a number (log 8). -/
def extCondHolds (table : BitVec 16) (f : Flags) : Bool :=
  table.getLsbD ((BitVec.ofBool f.z ++ BitVec.ofBool f.n ++ BitVec.ofBool f.c ++ BitVec.ofBool f.v : BitVec 4).toNat)

/-- `cc(q)` (R36, R37): an extension condition that is not implemented tests false. -/
def condHolds (cfg : Config) (q : BitVec 5) (f : Flags) : Bool :=
  bif decide (q.toNat < 16) then baseCond q.toNat f
  else match cfg.extCond.find? fun x => x.1 == q with
    | some x => extCondHolds x.2 f
    | none => false

/-- The condition of an instruction, if it has one (30_encoding.md R138). -/
def State.condMet (s : State) : Option (BitVec 5) → Bool
  | none => true
  | some q => condHolds s.cfg q s.flags

/-! ### Taking an exception or interrupt, and returning (60_exceptions.md R570 to R580) -/

/-- The address of a vector (R570). -/
def State.vectorAddr (s : State) (v : Nat) : Word := s.intVectorBase + BitVec.ofNat 32 (8 * v)

/-- What every entry clears besides the enables (R575). -/
def State.enterClear (s : State) : State :=
  { s with
    delayTarget := none
    prevDslot := false
    prevCmpBranch := false
    prevFlag := false
    prevSrStatusL := false
    draw := s.draw + 1 }

/-- `Enter(level, v, ret)` (R575): the link register takes the return address and the status save register the status, the
enables of the level and below are cleared, and the pc goes to the vector. -/
def State.enter (s : State) (level : Level) (v : Nat) (ret : Word) : State :=
  let t := { s.enterClear with pc := s.vectorAddr v }
  match level with
  | .one => { t.setReg 29 ret with statusL1 := s.status32 &&& statusLMask, e1 := false }
  | .two => { t.setReg 30 ret with statusL2 := s.status32 &&& statusLMask, e1 := false, e2 := false }

/-- Memory Error (R577). -/
def State.memoryError (s : State) (ret : Word) : State := s.enter .two 1 ret

/-- Instruction Error (R578). -/
def State.instructionError (s : State) (ret : Word) : State := s.enter .two 2 ret

/-- The restore of the status register by `J.F [ILINKn]` (R401, R580): H is not changed. -/
def State.restoreStatus (s : State) (link2 : Bool) : State := s.setStatus (bif link2 then s.statusL2 else s.statusL1)

/-! ### Before an instruction executes -/

/-- What every instruction but NOP meets first: the halt shadow (R656); an optional component that is absent makes the
encoding an Instruction Error with the base length (46_extensions.md R530, D17); a long immediate may not stand in a delay
slot (R373, D21). Otherwise the instruction goes on. -/
def State.start (s : State) (l : Len) (opt : Option Opt) (k : Result) : Result :=
  bif s.haltShadow != 0 then .refused .haltShadow
  else bif opt.any fun o => !Config.has s.cfg o then .next (s.instructionError (s.pc + l.base))
  else bif s.prevDslot && l.limm then .refused .limmInDelaySlot
  else k

/-- Go on with a value, unless it is refused. -/
def withValue {α : Type} (x : Except Refusal α) (k : α → Result) : Result :=
  match x with
  | .error r => .refused r
  | .ok a => k a

/-! ### The end of an instruction (43_branch_jump_loop.md R371, R425; 70_reset_and_hazards.md R652, R653) -/

/-- What an instruction did that its end depends on: the transfer it performed (target, and whether delayed), whether it
wrote LP_COUNT or, by SR, LP_START or LP_END, whether LP_COUNT is unpredictable after it (R427), and what the next
instruction must know of it (10_state.md R62). -/
structure Ending where
  transfer : Option (Word × Bool) := none
  wroteLpCount : Bool := false
  wroteLoopBounds : Bool := false
  lpCountFree : Bool := false
  dslotForm : Bool := false
  cmpBranch : Bool := false
  wasFlag : Bool := false
  wasSrStatusL : Bool := false
deriving DecidableEq, Repr

/-- `lpc_age` after an instruction (R652). -/
def State.nextLpcAge (s : State) (l : Len) (e : Ending) : Nat :=
  bif e.wroteLpCount then 0 else min 4 (s.lpcAge + l.words)

/-- `lpse_age` after an instruction (R653). -/
def State.nextLpseAge (s : State) (l : Len) (e : Ending) : Nat :=
  bif e.wroteLoopBounds then 0 else min 3 (s.lpseAge + l.words)

/-- The loop-end test (R425): whether the instruction is the last of the zero-overhead loop. -/
def State.atLoopEnd (s : State) (l : Len) : Bool := s.npc l == s.lpEnd

/-- The sequential next pc, with the loop (R425). -/
def State.loopPc (s : State) (l : Len) : Word :=
  bif s.atLoopEnd l && s.lpCount != 0#32 && s.lpCount != 1#32 then s.lpStart else s.npc l

/-- `NextPc()` (R425), with the delayed target that remains after it. -/
def State.nextPc (s : State) (l : Len) (e : Ending) : Word × Option Word :=
  match e.transfer with
  | some (t, false) => (t, none)
  | some (t, true) => (s.loopPc l, some t)
  | none =>
    match s.delayTarget with
    | some t => (t, none)
    | none => (s.loopPc l, none)

/-- LP_COUNT after an instruction that leaves `after` in it (R425, R427): one less than at its start in the last slot. -/
def State.nextLpCount (s : State) (l : Len) (e : Ending) (after : Word) : Word :=
  bif e.lpCountFree then s.free 2 else bif s.atLoopEnd l then s.lpCount - 1#32 else after

/-- The boundary after an instruction that started in `s` and whose own effects gave `t`: the next pc, the loop counter, the
hazard counters and what the next instruction must know. All of them from the values at the start of the instruction (D22). -/
def State.ended (s : State) (l : Len) (e : Ending) (t : State) : State :=
  { t with
    pc := (s.nextPc l e).1
    delayTarget := (s.nextPc l e).2
    lpCount := s.nextLpCount l e t.lpCount
    lpcAge := s.nextLpcAge l e
    lpseAge := s.nextLpseAge l e
    prevDslot := e.dslotForm
    prevCmpBranch := e.cmpBranch
    prevFlag := e.wasFlag
    prevSrStatusL := e.wasSrStatusL
    draw := s.draw + 1 }

/-- Completion of an instruction that started in `s` and whose own effects gave `t`: refused at the end of a loop that was
set up too late (R652, R653), else the boundary after it. -/
def State.retire (s : State) (l : Len) (e : Ending) (t : State) : Result :=
  bif s.atLoopEnd l && decide (s.nextLpcAge l e < 4) then .refused .loopCountTooLate
  else bif s.atLoopEnd l && decide (s.nextLpseAge l e < 3) then .refused .loopBoundsTooLate
  else .next (s.ended l e t)

/-! ### Slots of a loop (43_branch_jump_loop.md R427) -/

/-- The length of the instruction at an address, for counting slots: a reserved or undefined encoding counts with its base
length; `none` where it cannot be fetched (log 17). -/
def State.lenAt (s : State) (a : Word) : Option Len :=
  match s.fetch16 a with
  | none => none
  | some h0 =>
    bif isWide h0 then
      match s.fetch16 (a + 2) with
      | none => none
      | some h1 =>
        match decodeHalves h0 h1 0#32 with
        | .ok i => some ⟨false, i.hasLimm⟩
        | .reserved | .undefinedForm _ | .truncated => some ⟨false, false⟩
    else
      match decodeHalves h0 0#16 0#32 with
      | .ok i => some ⟨true, i.hasLimm⟩
      | .reserved | .undefinedForm _ | .truncated => some ⟨true, false⟩

/-- The instruction slots from an address to LP_END, walking through memory; `none` when LP_END is not met within `fuel`
instructions. -/
def State.slotsToEnd (s : State) : Nat → Word → Option Nat
  | 0, a => bif a == s.lpEnd then some 0 else none
  | fuel + 1, a =>
    bif a == s.lpEnd then some 0
    else match s.lenAt a with
      | none => none
      | some l => (s.slotsToEnd fuel (a + l.bytes)).map (· + l.words)

/-- The slot of the instruction at the pc, counted back from the end of the loop it stands in: 0 is the manual's `Insn`,
1 `Insn-1`, and so on; `none` outside a loop or further from its end (log 17). -/
def State.loopSlotOf (s : State) (l : Len) : Option Nat :=
  bif decide (s.lpStart.toNat ≤ s.pc.toNat) && decide (s.pc.toNat < s.lpEnd.toNat) then
    (s.slotsToEnd 3 (s.npc l)).map (· + (l.words - 1))
  else none

/-- The marks of Tables 5.12 to 5.14 (R427): not in this slot; not in this slot with a target inside the loop; LP_COUNT
unpredictable after an early exit. -/
inductive SlotMark where
  | free
  | barred
  | barredInside
  | exitUnpredictable
deriving DecidableEq, Repr

/-- The kinds of branch and jump of Tables 5.12 to 5.14 (R427). -/
inductive BranchKind where
  | plain
  | cmp
  | link
  | delayed
  | linkDelayed
  | cmpDelayed
  | jumpLimm
  | jumpLinkLimm
deriving DecidableEq, Repr

/-- The table of R427, by kind and slot. -/
def BranchKind.mark (k : BranchKind) (slot : Nat) : SlotMark :=
  match k, slot with
  | .plain, 0 => .barredInside
  | .plain, 1 => .exitUnpredictable
  | .cmp, 0 => .barredInside
  | .cmp, 1 => .exitUnpredictable
  | .cmp, 2 => .exitUnpredictable
  | .link, 0 => .barred
  | .delayed, 0 => .barred
  | .delayed, 1 => .barredInside
  | .linkDelayed, 0 => .barred
  | .linkDelayed, 1 => .barred
  | .cmpDelayed, 0 => .barred
  | .cmpDelayed, 1 => .barredInside
  | .cmpDelayed, 2 => .exitUnpredictable
  | .jumpLimm, 0 => .barred
  | .jumpLimm, 1 => .barredInside
  | .jumpLinkLimm, 0 => .barred
  | .jumpLinkLimm, 1 => .barred
  | _, _ => .free

/-- Whether an address lies inside the current loop (R427). -/
def State.insideLoop (s : State) (t : Word) : Bool :=
  decide (s.lpStart.toNat ≤ t.toNat) && decide (t.toNat < s.lpEnd.toNat)

/-- The effect of the mark on a branch with the given target, if taken: a refusal, or whether LP_COUNT becomes
unpredictable (R427). -/
def State.slotCheck (s : State) (l : Len) (k : BranchKind) (target : Option Word) : Except Refusal Bool :=
  match s.loopSlotOf l with
  | none => .ok false
  | some slot =>
    match k.mark slot, target with
    | .barred, _ => .error .loopSlot
    | .barredInside, some t => bif s.insideLoop t then .error .loopSlot else .ok false
    | .exitUnpredictable, some t => .ok (!s.insideLoop t)
    | .barredInside, none => .ok false
    | .exitUnpredictable, none => .ok false
    | .free, _ => .ok false

/-- The link value (R384): the address after the branch, or after its delay-slot instruction; free where that instruction
cannot be fetched. -/
def State.linkValue (s : State) (l : Len) (delayed : Bool) : Word :=
  bif delayed then
    match s.fetch16 (s.npc l) with
    | some h => s.npc l + bif isWide h then 4#32 else 2#32
    | none => s.free 4
  else s.npc l

/-! ### Auxiliary registers (10_state.md R38 to R54) -/

/-- The implemented semaphore bits (R43). -/
def semMask (cfg : Config) : Word := BitVec.ofNat 32 (2 ^ cfg.semaphoreBits - 1)

/-- STATUS (0x0), a view of the flags and PC[25:2] (R42); bit 24 is reserved. -/
def State.status (s : State) (f : Word) : Word :=
  BitVec.ofBool s.flags.z ++ BitVec.ofBool s.flags.n ++ BitVec.ofBool s.flags.c ++ BitVec.ofBool s.flags.v ++
    BitVec.ofBool s.e2 ++ BitVec.ofBool s.e1 ++ BitVec.ofBool s.h ++ f.extractLsb' 24 1 ++ s.pc.extractLsb' 2 24

/-- DEBUG (0x5) (R46): LD is 0 until a load has executed and free afterwards, FH reads 0, the other bits are reserved or
write-only and free (D11, R640). -/
def State.debug (s : State) (f : Word) : Word :=
  BitVec.ofBool (s.loadSeen && bitAt f 31) ++ BitVec.ofBool s.sh ++ BitVec.ofBool s.bh ++ f.extractLsb' 24 5 ++
    BitVec.ofBool s.zz ++ f.extractLsb' 2 21 ++ 0#1 ++ f.extractLsb' 0 1

/-- Whether the manual gives the number a register (Table 3.5, R40). -/
def isFixedAux (a : Word) : Bool :=
  [0x0#32, 0x1#32, 0x2#32, 0x3#32, 0x4#32, 0x5#32, 0x6#32, 0xA#32, 0xB#32, 0xC#32, 0x12#32, 0x25#32].contains a ||
    (decide (0x60 ≤ a.toNat) && decide (a.toNat < 0x80))

/-- Whether an extension auxiliary register of the number exists (EXT_AUX_REG, 00_scope.md R7). -/
def isExtAux (cfg : Config) (a : Word) : Bool := cfg.extAux.contains a && !isFixedAux a

/-- What the extension auxiliary register of a number that exists holds (log 7). -/
def State.extAuxReg (s : State) (a : Word) : Word := (s.auxExt[s.cfg.extAux.idxOf a]?).getD 0#32

/-- Hold a value in an extension auxiliary register that exists. -/
def State.setExtAux (s : State) (a v : Word) : State := { s with auxExt := s.auxExt.set (s.cfg.extAux.idxOf a) v }

/-- Read of an auxiliary register by LR, with the free value `f` for what the manual does not fix (R38). -/
def State.auxReadWith (s : State) (a f : Word) : Word :=
  match a.toNat with
  | 0x0 => s.status f
  | 0x1 => freeUnder (~~~(semMask s.cfg)) s.semCpu f
  | 0x2 => s.lpStart
  | 0x3 => s.lpEnd
  | 0x4 => s.cfg.identity
  | 0x5 => s.debug f
  | 0x6 => s.pc
  | 0xA => freeUnder 0xFFFFF0F8#32 s.status32 f
  | 0xB => freeUnder (~~~statusLMask) s.statusL1 f
  | 0xC => freeUnder (~~~statusLMask) s.statusL2 f
  | 0x25 => s.intVectorBase
  | n => bif decide (0x60 ≤ n) && decide (n < 0x80) then Config.buildReg a
    else bif isExtAux s.cfg a then Config.extAuxView a (s.extAuxReg a) else f

/-- Read of an auxiliary register by LR. -/
def State.auxRead (s : State) (a : Word) : Word := s.auxReadWith a (s.free 5)

/-- Clear bit 0 (R44, R45, R374). -/
def clearBit0 (v : Word) : Word := v &&& 0xFFFFFFFE#32

/-- Write of an auxiliary register by SR (R39): registers that are read-only (D12) or not implemented ignore it. -/
def State.auxWrite (s : State) (a v : Word) : State :=
  match a.toNat with
  | 0x1 => { s with semCpu := v &&& ~~~s.semHost &&& semMask s.cfg }
  | 0x2 => { s with lpStart := clearBit0 v }
  | 0x3 => { s with lpEnd := clearBit0 v }
  | 0xB => { s with statusL1 := v &&& statusLMask }
  | 0xC => { s with statusL2 := v &&& statusLMask }
  | 0x12 => bif s.cfg.hasMul64 then { s with mulres := v ++ s.mulres.extractLsb' 0 32 } else s
  | 0x25 => { s with intVectorBase := v &&& 0xFFFFFC00#32 }
  | _ => bif isExtAux s.cfg a then s.setExtAux a (Config.extAuxTake a (s.extAuxReg a) v) else s

end Sys2Proof.Machine
end

