-- ==== Sys2Proof/Machine/Flags.lean ====
section
/-! DEFINITION. The arithmetic and logic: every result and every flag computation of 40_alu_arith.md, 41_logic_move_bit.md,
42_shift_rotate.md and 46_extensions.md, with the flag functions of 00_scope.md R9. Each operation gives its result and the
flags it would leave; the instruction writes them when it sets flags. -/

namespace Sys2Proof.Machine

/-! ### The flag functions (00_scope.md R9; log 40) -/

/-- `z`: the result is zero. -/
def isZero (res : Word) : Bool := res == 0#32

/-- `n`: bit 31 of the result. -/
def isNeg (res : Word) : Bool := res.msb

/-- `CarryAdd`: the carry out of bit 31 of a + b + cin. -/
def carryAdd (a b : Word) (cin : Bool) : Bool := decide (2 ^ 32 ≤ a.toNat + b.toNat + cin.toNat)

/-- `OvfAdd`: two operands of one sign give a result of the other. -/
def ovfAdd (a b res : Word) : Bool := (a.msb && b.msb && !res.msb) || (!a.msb && !b.msb && res.msb)

/-- `BorrowSub`: a < b + bin as unsigned numbers. -/
def borrowSub (a b : Word) (bin : Bool) : Bool := decide (a.toNat < b.toNat + bin.toNat)

/-- `OvfSub`: operands of different signs give a result of the other sign than the first. -/
def ovfSub (a b res : Word) : Bool := (a.msb && !b.msb && !res.msb) || (!a.msb && b.msb && res.msb)

/-! ### Results with all four flags (40_alu_arith.md) -/

/-- Addition with carry in (R221, R222, R228). -/
def addFlags (a b : Word) (cin : Bool) : Word × Flags :=
  let res := a + b + (BitVec.ofBool cin).setWidth 32
  (res, ⟨isZero res, isNeg res, carryAdd a b cin, ovfAdd a b res⟩)

/-- Subtraction with borrow in (R223, R224, R228). -/
def subFlags (a b : Word) (bin : Bool) : Word × Flags :=
  let res := a - b - (BitVec.ofBool bin).setWidth 32
  (res, ⟨isZero res, isNeg res, borrowSub a b bin, ovfSub a b res⟩)

/-- MAX (R240): C tells that src2 is selected; N and V are those of src1 - src2. -/
def maxFlags (a b : Word) : Word × Flags :=
  let sel2 := a.sle b
  (bif sel2 then b else a, ⟨a == b, isNeg (a - b), sel2, ovfSub a b (a - b)⟩)

/-- MIN (R241). -/
def minFlags (a b : Word) : Word × Flags :=
  let sel2 := b.sle a
  (bif sel2 then b else a, ⟨a == b, isNeg (a - b), sel2, ovfSub a b (a - b)⟩)

/-- ABS (R245). -/
def absFlags (a : Word) : Word × Flags :=
  let res := bif a.msb then 0#32 - a else a
  (res, ⟨isZero res, a == 0x80000000#32, a.msb, a == 0x80000000#32⟩)

/-! ### Results that set Z and N (41_logic_move_bit.md R280) -/

/-- Z and N from the result; C and V stay. -/
def znOf (f : Flags) (res : Word) : Word × Flags := (res, ⟨isZero res, isNeg res, f.c, f.v⟩)

/-- A bit number or shift count: only the low five bits count (R300, 42_shift_rotate.md R330). -/
def count5 (b : Word) : Nat := (b.extractLsb' 0 5).toNat

/-- The single-bit mask of BSET, BCLR, BTST, BXOR (R300). -/
def bitMask (b : Word) : Word := 1#32 <<< count5 b

/-- The mask of BMSK (R304): ones up to and including the bit; computed without truncation. -/
def lowMask (b : Word) : Word := BitVec.ofNat 32 (2 ^ (count5 b + 1) - 1)

/-! ### Shifts (42_shift_rotate.md) -/

/-- Z and N from the result and the given C; V stays. -/
def zncOf (f : Flags) (res : Word) (c : Bool) : Word × Flags := (res, ⟨isZero res, isNeg res, c, f.v⟩)

/-- ASL by a count (R340): C is the last bit shifted out, 0 for a count of 0. -/
def aslFlags (f : Flags) (a b : Word) : Word × Flags :=
  let n := count5 b
  zncOf f (a <<< n) (n != 0 && a.getLsbD (32 - n))

/-- The last bit shifted out to the right, 0 for a count of 0 (R341 to R343). -/
def lastOutRight (a : Word) (n : Nat) : Bool := n != 0 && a.getLsbD (n - 1)

/-- LSR by a count (R341). -/
def lsrFlags (f : Flags) (a b : Word) : Word × Flags :=
  zncOf f (a >>> count5 b) (lastOutRight a (count5 b))

/-- ASR by a count (R342). -/
def asrFlags (f : Flags) (a b : Word) : Word × Flags :=
  zncOf f (a.sshiftRight (count5 b)) (lastOutRight a (count5 b))

/-- ROR by a count (R343). -/
def rorFlags (f : Flags) (a b : Word) : Word × Flags :=
  zncOf f (a.rotateRight (count5 b)) (lastOutRight a (count5 b))

/-! ### Normalize (46_extensions.md R546, R547) -/

/-- The number of leading zero bits of the `n` low bits of a number. -/
def leadingZeros (x : Nat) : Nat → Nat
  | 0 => 0
  | n + 1 => bif x.testBit n then 0 else leadingZeros x n + 1

/-- The normalization integer of a value of `w` bits: one less than the leading zeros of the value, folded onto the
non-negative ones. -/
def normInt {w : Nat} (a : BitVec w) : Nat := leadingZeros ((bif a.msb then ~~~a else a).toNat) w - 1

/-- NORM (R546): Z and N describe the source. -/
def normFlags (f : Flags) (a : Word) : Word × Flags :=
  (BitVec.ofNat 32 (normInt a), ⟨isZero a, a.msb, f.c, f.v⟩)

/-- NORMW (R547): the same of the low 16 bits. -/
def normwFlags (f : Flags) (a : Word) : Word × Flags :=
  let h : Half := a.extractLsb' 0 16
  (BitVec.ofNat 32 (normInt h), ⟨h == 0#16, h.msb, f.c, f.v⟩)

/-! ### The operations -/

/-- Result and flags of a dual-operand operation (R221 to R241, R281 to R304, R340 to R343). -/
def aluEval (op : AluOp) (f : Flags) (a b : Word) : Word × Flags :=
  match op with
  | .add => addFlags a b false
  | .adc => addFlags a b f.c
  | .sub => subFlags a b false
  | .sbc => subFlags a b f.c
  | .rsub => subFlags b a false
  | .add1 => addFlags a (b <<< 1) false
  | .add2 => addFlags a (b <<< 2) false
  | .add3 => addFlags a (b <<< 3) false
  | .sub1 => subFlags a (b <<< 1) false
  | .sub2 => subFlags a (b <<< 2) false
  | .sub3 => subFlags a (b <<< 3) false
  | .max => maxFlags a b
  | .min => minFlags a b
  | .and => znOf f (a &&& b)
  | .or => znOf f (a ||| b)
  | .bic => znOf f (a &&& ~~~b)
  | .xor => znOf f (a ^^^ b)
  | .bset => znOf f (a ||| bitMask b)
  | .bclr => znOf f (a &&& ~~~(bitMask b))
  | .bxor => znOf f (a ^^^ bitMask b)
  | .bmsk => znOf f (a &&& lowMask b)
  | .asl => aslFlags f a b
  | .lsr => lsrFlags f a b
  | .asr => asrFlags f a b
  | .ror => rorFlags f a b

/-- The flags of a comparison or test; its result is discarded (R226, R227, R286, R302). -/
def testEval (op : TestOp) (f : Flags) (a b : Word) : Flags :=
  match op with
  | .tst => (znOf f (a &&& b)).2
  | .cmp => (subFlags a b false).2
  | .rcmp => (subFlags b a false).2
  | .btst => (znOf f (a &&& bitMask b)).2

/-- Result and flags of a single-operand operation (R245, R285, R310 to R313, R331 to R336, R545 to R547). `freeV` is the
flag V that RLC leaves undefined (R336). -/
def sopEval (op : SopOp) (f : Flags) (freeV : Bool) (a : Word) : Word × Flags :=
  match op with
  | .asl => addFlags a a false
  | .asr => zncOf f (a.sshiftRight 1) (bitAt a 0)
  | .lsr => zncOf f (a >>> 1) (bitAt a 0)
  | .ror => zncOf f (a.rotateRight 1) (bitAt a 0)
  | .rrc => zncOf f (BitVec.ofBool f.c ++ a.extractLsb' 1 31) (bitAt a 0)
  | .rlc =>
    let res : Word := a.extractLsb' 0 31 ++ BitVec.ofBool f.c
    (res, ⟨isZero res, isNeg res, a.msb, freeV⟩)
  | .sexb => znOf f ((a.extractLsb' 0 8).signExtend 32)
  | .sexw => znOf f ((a.extractLsb' 0 16).signExtend 32)
  | .extb => znOf f ((a.extractLsb' 0 8).setWidth 32)
  | .extw => znOf f ((a.extractLsb' 0 16).setWidth 32)
  | .abs => absFlags a
  | .not => znOf f (~~~a)
  | .swap => znOf f (a.extractLsb' 0 16 ++ a.extractLsb' 16 16)
  | .norm => normFlags f a
  | .normw => normwFlags f a

/-- The data operations: what the instructions of one or two source operands compute. -/
inductive DataOp where
  | alu (op : AluOp)
  | test (op : TestOp)
  | mov
  | sop (op : SopOp)
deriving DecidableEq, Repr

/-- Result and flags of a data operation; MOV takes its value from the second operand (R290). -/
def dataEval (op : DataOp) (f : Flags) (freeV : Bool) (a b : Word) : Word × Flags :=
  match op with
  | .alu op => aluEval op f a b
  | .test op => (0#32, testEval op f a b)
  | .mov => znOf f b
  | .sop op => sopEval op f freeV b

/-- The 64-bit product of the multiplier (R540, R541). -/
def mulEval (signed : Bool) (a b : Word) : BitVec 64 :=
  bif signed then a.signExtend 64 * b.signExtend 64 else a.setWidth 64 * b.setWidth 64

/-- The test of a compare-and-branch (43_branch_jump_loop.md R390, R392, R393). -/
def brTaken (op : BrOp) (a b : Word) : Bool :=
  match op with
  | .breq => a == b
  | .brne => a != b
  | .brlt => a.slt b
  | .brge => b.sle a
  | .brlo => a.ult b
  | .brhs => b.ule a
  | .bbit0 => !a.getLsbD (count5 b)
  | .bbit1 => a.getLsbD (count5 b)

/-- The optional component an operation needs (46_extensions.md R530, R531). -/
def aluNeeds : AluOp → Option Opt
  | .asl | .lsr | .asr | .ror => some .barrel
  | .add | .adc | .sub | .sbc | .and | .or | .bic | .xor | .max | .min | .rsub | .bset | .bclr | .bxor | .bmsk | .add1
  | .add2 | .add3 | .sub1 | .sub2 | .sub3 => none

/-- The optional component a single-operand operation needs (R530). -/
def sopNeeds : SopOp → Option Opt
  | .swap => some .swap
  | .norm | .normw => some .norm
  | .asl | .asr | .lsr | .ror | .rrc | .sexb | .sexw | .extb | .extw | .abs | .not | .rlc => none

/-- The optional component a data operation needs. -/
def dataNeeds : DataOp → Option Opt
  | .alu op => aluNeeds op
  | .sop op => sopNeeds op
  | .test _ | .mov => none

end Sys2Proof.Machine
end

