-- ==== Sys2Proof/Machine/Operands.lean ====
section
/-! DEFINITION. Operands: reading a source, the operands of every format (30_encoding.md R136 to R190), and the address of a
memory access (44_load_store.md R444). -/

namespace Sys2Proof.Machine

/-! ### Source operands -/

/-- A source operand: a register field with the long immediate that 62 stands for, or an immediate value. -/
inductive Operand where
  | reg (r : Reg) (limm : Word)
  | imm (w : Word)
deriving DecidableEq, Repr

/-- The value of an operand (R30). -/
def State.value (s : State) (l : Len) (slot : Nat) : Operand → Except Refusal Word
  | .reg r limm => s.readCore l slot r limm
  | .imm w => .ok w

/-- Whether an operand is a multiply result register: reading one waits for the multiply (70_reset_and_hazards.md R645). -/
def Operand.isMul (cfg : Config) : Operand → Bool
  | .reg r _ => isMulReg cfg r
  | .imm _ => false

/-- Having read operands: a multiply has finished if one of them is its result (R645). -/
def State.afterReads (s : State) (os : List Operand) : State :=
  bif os.any (Operand.isMul s.cfg) then { s with mulBusy := false } else s

/-! ### Immediates (30_encoding.md R190) -/

/-- An unsigned immediate, scaled. -/
def uimm {w : Nat} (u : BitVec w) (shift : Nat) : Word := u.setWidth 32 <<< shift

/-- A signed immediate or displacement, scaled. -/
def simm {w : Nat} (s : BitVec w) (shift : Nat) : Word := s.signExtend 32 <<< shift

/-- `reg16` (10_state.md R23): the register of a 3-bit field. -/
def reg16 (f : Reg3) : Reg := bif f.toNat < 4 then f.setWidth 6 else f.setWidth 6 + 8#6

/-- The operand of a 3-bit register field. -/
def op16 (f : Reg3) : Operand := .reg (reg16 f) 0#32

/-- r26, GP (10_state.md R21). -/
def rGP : Reg := 26#6
/-- r28, SP (R21). -/
def rSP : Reg := 28#6
/-- r31, BLINK (R21). -/
def rBLINK : Reg := 31#6

/-! ### The operands of the data formats -/

/-- The operands of a data instruction: whether it sets flags, its destination, its sources, its condition, its length. A
format without a first source has none: it is not read. -/
structure DataArgs where
  setFlags : Bool
  dest : Option Reg
  src1 : Option Operand
  src2 : Operand
  cond : Option (BitVec 5)
  len : Len
deriving DecidableEq, Repr

/-- The length of a 32-bit instruction with the given long-immediate part. -/
def len32 (p : Bool × Word) : Len := ⟨false, p.1⟩

/-- The length of a 16-bit instruction. -/
def len16 : Len := ⟨true, false⟩

/-- The five general formats (R136). -/
def genArgs (form : GenForm) : DataArgs :=
  let len := len32 form.limmPart
  match form with
  | .abc f a b c limm => ⟨f, some a, some (.reg b limm), .reg c limm, none, len⟩
  | .abu6 f a b u limm => ⟨f, some a, some (.reg b limm), .imm (uimm u 0), none, len⟩
  | .bbs12 f b s limm => ⟨f, some b, some (.reg b limm), .imm (simm s 0), none, len⟩
  | .ccbbc f b c q limm => ⟨f, some b, some (.reg b limm), .reg c limm, some q, len⟩
  | .ccbbu6 f b u q limm => ⟨f, some b, some (.reg b limm), .imm (uimm u 0), some q, len⟩

/-- The five formats without destination, which always set flags (R141); the multiplies use their sources (R540). -/
def cmpArgs (form : CmpForm) : DataArgs :=
  let len := len32 form.limmPart
  match form with
  | .bc b c limm => ⟨true, none, some (.reg b limm), .reg c limm, none, len⟩
  | .bu6 b u limm => ⟨true, none, some (.reg b limm), .imm (uimm u 0), none, len⟩
  | .bs12 b s limm => ⟨true, none, some (.reg b limm), .imm (simm s 0), none, len⟩
  | .ccbc b c q limm => ⟨true, none, some (.reg b limm), .reg c limm, some q, len⟩
  | .ccbu6 b u q limm => ⟨true, none, some (.reg b limm), .imm (uimm u 0), some q, len⟩

/-- The five formats of MOV (R141, R290). -/
def movArgs (form : MovForm) : DataArgs :=
  let len := len32 form.limmPart
  match form with
  | .bc f b c limm => ⟨f, some b, none, .reg c limm, none, len⟩
  | .bu6 f b u => ⟨f, some b, none, .imm (uimm u 0), none, len⟩
  | .bs12 f b s => ⟨f, some b, none, .imm (simm s 0), none, len⟩
  | .ccbc f b c q limm => ⟨f, some b, none, .reg c limm, some q, len⟩
  | .ccbu6 f b u q => ⟨f, some b, none, .imm (uimm u 0), some q, len⟩

/-- The two single-operand formats (R142). -/
def sopArgs (form : SopForm) : DataArgs :=
  let len := len32 form.limmPart
  match form with
  | .bc f b c limm => ⟨f, some b, none, .reg c limm, none, len⟩
  | .bu6 f b u => ⟨f, some b, none, .imm (uimm u 0), none, len⟩

/-- The one source of J, JL and FLAG (R141, R400, R492). -/
def jArgs (form : JForm) : DataArgs :=
  let len := len32 form.limmPart
  match form with
  | .c r limm => ⟨false, none, none, .reg r limm, none, len⟩
  | .u6 u => ⟨false, none, none, .imm (uimm u 0), none, len⟩
  | .s12 s => ⟨false, none, none, .imm (simm s 0), none, len⟩
  | .ccc r q limm => ⟨false, none, none, .reg r limm, some q, len⟩
  | .ccu6 u q => ⟨false, none, none, .imm (uimm u 0), some q, len⟩

/-- The one source of J.D and JL.D (R400, R405). -/
def jdArgs (form : JDForm) : DataArgs :=
  match form with
  | .c r => ⟨false, none, none, .reg r 0#32, none, ⟨false, false⟩⟩
  | .u6 u => ⟨false, none, none, .imm (uimm u 0), none, ⟨false, false⟩⟩
  | .s12 s => ⟨false, none, none, .imm (simm s 0), none, ⟨false, false⟩⟩
  | .ccc r q => ⟨false, none, none, .reg r 0#32, some q, ⟨false, false⟩⟩
  | .ccu6 u q => ⟨false, none, none, .imm (uimm u 0), some q, ⟨false, false⟩⟩

/-- The operands of a 16-bit data instruction, which sets no flags (40_alu_arith.md R229). -/
def args16 (dest : Reg) (src1 : Option Operand) (src2 : Operand) : DataArgs :=
  ⟨false, some dest, src1, src2, none, len16⟩

/-- The same for the forms with a high register h, which may be a long immediate (R173). -/
def args16h (dest : Reg) (src1 : Option Operand) (h : Reg) (limm : Word) : DataArgs :=
  ⟨false, some dest, src1, .reg h limm, none, ⟨true, isLimm h⟩⟩

/-- The operands of CMP_S, TST_S, BTST_S, which always set flags (R229). -/
def args16f (src1 src2 : Operand) (limm : Bool) : DataArgs :=
  ⟨true, none, some src1, src2, none, ⟨true, limm⟩⟩

/-! ### Memory accesses -/

/-- The operands of a load or store: size, base, offset, write-back mode, the register written back (none: no such
register), length. -/
structure MemArgs where
  size : Size
  base : Operand
  offset : Operand
  aa : BitVec 2
  wb : Option Reg
  len : Len
deriving DecidableEq, Repr

/-- `EffAddr` (44_load_store.md R444): the address, and the value written back to the base register. -/
def effAddr (size : Size) (base off : Word) (aa : BitVec 2) : Word × Option Word :=
  match aa.toNat with
  | 0 => (base + off, none)
  | 1 => (base + off, some (base + off))
  | 2 => (base, some (base + off))
  | _ =>
    match size with
    | .long => (base + (off <<< 2), none)
    | .half => (base + (off <<< 1), none)
    | .byte => (base + off, none)

/-- The size of a load (R159). -/
def ldSize : LdKind → Size
  | .long => .long
  | .byte _ => .byte
  | .half _ => .half

/-- Whether a load sign-extends (R160). -/
def ldSigned : LdKind → Bool
  | .long => false
  | .byte x => x
  | .half x => x

/-- `LoadValue` (R442): the datum, zero- or sign-extended. -/
def extendLoad (size : Size) (signed : Bool) (v : Word) : Word :=
  match size, signed with
  | .byte, true => (v.extractLsb' 0 8).signExtend 32
  | .half, true => (v.extractLsb' 0 16).signExtend 32
  | _, _ => v

/-- The operands of a 32-bit load (R440, R441). -/
def ldArgs (size : Size) (form : LdForm) : MemArgs :=
  let len := len32 form.limmPart
  match form with
  | .rr _ b c aa _ limm => ⟨size, .reg b limm, .reg c limm, aa, some b, len⟩
  | .s9 _ b s aa _ limm => ⟨size, .reg b limm, .imm (simm s 0), aa, some b, len⟩

/-- The destination of a 32-bit load (R440, R441). -/
def ldDest : LdForm → Reg
  | .rr a _ _ _ _ _ => a
  | .s9 a _ _ _ _ _ => a

/-- The operands of a 32-bit store (R460). -/
def stArgs (size : Size) (c b : Reg) (s : BitVec 9) (aa : BitVec 2) (limm : Word) : MemArgs :=
  ⟨size, .reg b limm, .imm (simm s 0), aa, some b, ⟨false, isLimm b || isLimm c⟩⟩

/-- The operands of a 16-bit access without write-back. -/
def mem16 (size : Size) (base offset : Operand) : MemArgs := ⟨size, base, offset, 0#2, none, len16⟩

/-- POP_S (R455): `LD.AB a,[SP,4]`. -/
def popArgs : MemArgs := ⟨.long, .reg rSP 0#32, .imm 4#32, 2#2, some rSP, len16⟩

/-- PUSH_S (R463): `ST.AW c,[SP,-4]`. -/
def pushArgs : MemArgs := ⟨.long, .reg rSP 0#32, .imm (0#32 - 4#32), 1#2, some rSP, len16⟩

/-- The scale of a 16-bit offset: it is aligned to the data size (30_encoding.md R177, R180). -/
def sizeShift : Size → Nat
  | .long => 2
  | .byte => 0
  | .half => 1

end Sys2Proof.Machine
end

