-- ==== Sys2Proof/Machine/Meaning.lean ====
section
/-! DEFINITION. The meanings shared by the instructions of one kind. Each instruction is one definition over these, in the
files of its family. A refused operand refuses the instruction; a condition that is false reads and writes nothing
(30_encoding.md R138, log 41). -/

namespace Sys2Proof.Machine

/-- The value of the first source; 0 where the format has none. -/
def State.value1 (s : State) (x : DataArgs) : Except Refusal Word :=
  match x.src1 with
  | some o => s.value x.len 0 o
  | none => .ok 0#32

/-- The source operands of a data instruction. -/
def DataArgs.sources (x : DataArgs) : List Operand :=
  match x.src1 with
  | some o => [o, x.src2]
  | none => [x.src2]

/-- Write a destination, if the format has one. -/
def State.writeDest (s : State) (dest : Option Reg) (v : Word) : State :=
  match dest with
  | some r => s.writeCore r v
  | none => s

/-- Data instructions (40_alu_arith.md R220, 41_logic_move_bit.md R280, 42_shift_rotate.md R330): both sources are read, the
result is written to the destination, and the flags when the instruction sets them. -/
def runData (op : DataOp) (x : DataArgs) (s : State) : Result :=
  s.start x.len (dataNeeds op) <|
    bif s.condMet x.cond then
      withValue (s.value1 x) fun a =>
      withValue (s.value x.len 1 x.src2) fun b =>
        let r := dataEval op s.flags (bitAt (s.free 3) 0) a b
        let t := (s.afterReads x.sources).writeDest x.dest r.1
        s.retire x.len { wroteLpCount := x.dest == some 60#6 } { t with flags := bif x.setFlags then r.2 else s.flags }
    else s.retire x.len {} s

/-- MUL64, MULU64, MUL64_S (46_extensions.md R540 to R542): the 64-bit product; no register and no flag. -/
def runMul (signed : Bool) (x : DataArgs) (s : State) : Result :=
  s.start x.len (some .mul64) <|
    bif s.condMet x.cond then
      withValue (s.value1 x) fun a =>
      withValue (s.value x.len 1 x.src2) fun b =>
        s.retire x.len {} { s with mulres := mulEval signed a b, mulBusy := true }
    else s.retire x.len {} s

/-- Write the value of the address write-back, if there is one (44_load_store.md R444). -/
def State.writeBack (s : State) (wb : Option Reg) (v : Option Word) : State :=
  match wb, v with
  | some r, some w => s.writeCore r w
  | _, _ => s

/-- Whether the address write-back names LP_COUNT (70_reset_and_hazards.md R652). -/
def wbWritesLpCount (wb : Option Reg) (v : Option Word) : Bool := wb == some 60#6 && v.isSome

/-- Loads (44_load_store.md R440 to R455): the address from base and offset; an unaligned one is refused, one that is not
valid memory raises Memory Error with nothing written; else the write-back, then the loaded value (R447). -/
def runLoad (signed : Bool) (dest : Reg) (x : MemArgs) (s : State) : Result :=
  s.start x.len none <|
    bif dest == 60#6 then .refused .loadToLpCount
    else
      withValue (s.value x.len 0 x.base) fun base =>
      withValue (s.value x.len 1 x.offset) fun off =>
        let ea := effAddr x.size base off x.aa
        bif !isAligned x.size ea.1 then .refused .misaligned
        else bif !s.validFrom .load ea.1 (sizeBytes x.size) then .next (s.memoryError (s.npc x.len))
        else
          let v := extendLoad x.size signed (s.readData x.size ea.1)
          let t := ((s.afterReads [x.base, x.offset]).writeBack x.wb ea.2).writeCore dest v
          s.retire x.len { wroteLpCount := wbWritesLpCount x.wb ea.2 } { t with loadSeen := true }

/-- Stores (R460 to R463): address and data are read first; then the memory, then the write-back. -/
def runStore (data : Operand) (x : MemArgs) (s : State) : Result :=
  s.start x.len none <|
    withValue (s.value x.len 0 x.base) fun base =>
    withValue (s.value x.len 1 data) fun v =>
    withValue (s.value x.len 1 x.offset) fun off =>
      let ea := effAddr x.size base off x.aa
      bif !isAligned x.size ea.1 then .refused .misaligned
      else bif !s.validFrom .store ea.1 (sizeBytes x.size) then .next (s.memoryError (s.npc x.len))
      else
        let t := ((s.afterReads [x.base, data]).writeData x.size ea.1 v).writeBack x.wb ea.2
        s.retire x.len { wroteLpCount := wbWritesLpCount x.wb ea.2 } t

/-! ### Control transfer (43_branch_jump_loop.md) -/

/-- What a branch or jump tests. -/
inductive BranchTest where
  | always
  | cond (q : BitVec 5)
  | cmp (op : BrOp) (a b : Operand)
deriving DecidableEq, Repr

/-- Where a branch or jump goes: a displacement from `pcl` (R370), or the value of an operand with bit 0 cleared (R374). -/
inductive BranchTarget where
  | rel (rd : Word)
  | abs (o : Operand)
deriving DecidableEq, Repr

/-- A branch or jump. -/
structure BranchArgs where
  test : BranchTest
  target : BranchTarget
  link : Bool
  delayed : Bool
  kind : BranchKind
  len : Len
deriving DecidableEq, Repr

/-- Whether the branch is taken (R376, R390). -/
def State.branchTaken (s : State) (x : BranchArgs) : Except Refusal Bool :=
  match x.test with
  | .always => .ok true
  | .cond q => .ok (condHolds s.cfg q s.flags)
  | .cmp op a b =>
    match s.value x.len 0 a, s.value x.len 1 b with
    | .error r, _ => .error r
    | .ok _, .error r => .error r
    | .ok u, .ok v => .ok (brTaken op u v)

/-- The target of the branch. -/
def State.branchTarget (s : State) (x : BranchArgs) : Except Refusal Word :=
  match x.target with
  | .rel rd => .ok (s.pcl + rd)
  | .abs o =>
    match s.value x.len 1 o with
    | .error r => .error r
    | .ok v => .ok (clearBit0 v)

/-- The operands the test of a branch reads. -/
def BranchTest.operands : BranchTest → List Operand
  | .always => []
  | .cond _ => []
  | .cmp _ a b => [a, b]

/-- The operands the target of a branch reads. -/
def BranchTarget.operands : BranchTarget → List Operand
  | .rel _ => []
  | .abs o => [o]

/-- Whether the test is a comparison, after which SLEEP and SWI may not stand (10_state.md R62). -/
def BranchTest.isCmp : BranchTest → Bool
  | .always => false
  | .cond _ => false
  | .cmp .. => true

/-- Branches and jumps (R380 to R406): refused directly after a `.D` form (R375) and in a slot of a loop where the kind may
not stand (R427); when taken, BLINK takes the link value for a linking form, and the transfer is performed. -/
def runBranch (x : BranchArgs) (s : State) : Result :=
  s.start x.len none <|
    bif s.prevDslot then .refused .branchInDelaySlot
    else
      withValue (s.branchTaken x) fun taken =>
        bif taken then
          withValue (s.branchTarget x) fun t =>
          withValue (s.slotCheck x.len x.kind (some t)) fun lpFree =>
            let u := s.afterReads (x.test.operands ++ x.target.operands)
            s.retire x.len
              { transfer := some (t, x.delayed), lpCountFree := lpFree, dslotForm := x.delayed, cmpBranch := x.test.isCmp }
              (bif x.link then u.writeCore rBLINK (s.linkValue x.len x.delayed) else u)
        else
          withValue (s.slotCheck x.len x.kind none) fun _ =>
            s.retire x.len { dslotForm := x.delayed, cmpBranch := x.test.isCmp } (s.afterReads x.test.operands)

/-- The condition of a jump as a test. -/
def testOf : Option (BitVec 5) → BranchTest
  | none => .always
  | some q => .cond q

/-- The kind of a jump (R427). DESIGN CHOICE (log 53): of the jumps without link and delay slot the table names only Jcc [Rn] and
Jcc limm; a J with u6 or s12 is taken with Jcc [Rn]. -/
def jumpKind (link limm : Bool) : BranchKind :=
  match link, limm with
  | false, false => .plain
  | true, false => .link
  | false, true => .jumpLimm
  | true, true => .jumpLinkLimm

/-- Jcc and JLcc (R400, R405). -/
def jumpArgs (link : Bool) (x : DataArgs) : BranchArgs :=
  ⟨testOf x.cond, .abs x.src2, link, false, jumpKind link x.len.limm, x.len⟩

/-- Jcc.D and JLcc.D (R400, R405). -/
def jumpDArgs (link : Bool) (x : DataArgs) : BranchArgs :=
  ⟨testOf x.cond, .abs x.src2, link, true, bif link then .linkDelayed else .delayed, x.len⟩

/-- The kind of a branch with a delay-slot bit (R427). -/
def relKind (link delayed : Bool) : BranchKind :=
  match link, delayed with
  | false, false => .plain
  | false, true => .delayed
  | true, false => .link
  | true, true => .linkDelayed

/-- Bcc, B, BLcc, BL and their 16-bit forms (R380 to R387). -/
def relArgs (cond : Option (BitVec 5)) (rd : Word) (link delayed : Bool) (len : Len) : BranchArgs :=
  ⟨testOf cond, .rel rd, link, delayed, relKind link delayed, len⟩

/-- BRcc, BBIT0, BBIT1 (R390, R392, R393). -/
def brArgs (op : BrOp) (form : BrForm) : BranchArgs :=
  let len := len32 form.limmPart
  match form with
  | .bcs9 b c s n limm =>
    ⟨.cmp op (.reg b limm) (.reg c limm), .rel (simm s 1), false, n, bif n then .cmpDelayed else .cmp, len⟩
  | .bu6s9 b u s n limm =>
    ⟨.cmp op (.reg b limm) (.imm (uimm u 0)), .rel (simm s 1), false, n, bif n then .cmpDelayed else .cmp, len⟩

/-- BREQ_S and BRNE_S (R391). -/
def br16Args (ne : Bool) (b : Reg3) (s : BitVec 7) : BranchArgs :=
  ⟨.cmp (bif ne then .brne else .breq) (op16 b) (.imm 0#32), .rel (simm s 1), false, false, .cmp, len16⟩

/-- A 16-bit jump to a register (R402, R406). -/
def j16Args (test : BranchTest) (o : Operand) (link delayed : Bool) : BranchArgs :=
  ⟨test, .abs o, link, delayed, relKind link delayed, len16⟩

/-- The condition of an instruction as a test of the flags. -/
def jfCond : JFForm → Option (BitVec 5)
  | .c _ _ => none
  | .ccc _ _ q => some q

/-- Whether `J.F` names ILINK2. -/
def jfLink2 : JFForm → Bool
  | .c l _ => l
  | .ccc l _ _ => l

/-- Whether `J.F` has a delay slot (D19). -/
def jfDelayed : JFForm → Bool
  | .c _ d => d
  | .ccc _ d _ => d

/-- The target of `J.F [ILINKn]` (R401). -/
def State.returnTarget (s : State) (link2 : Bool) : Word := clearBit0 (s.reg (bif link2 then 30 else 29))

/-- `Jcc.F [ILINKn]` (R401, R580): return from interrupt or exception. The status is restored at the jump's own step, H
excepted; directly after a FLAG or an SR to a status link register it is refused (70_reset_and_hazards.md R655). -/
def runReturn (form : JFForm) (s : State) : Result :=
  let l : Len := ⟨false, false⟩
  let d := jfDelayed form
  let kind : BranchKind := bif d then .delayed else .plain
  s.start l none <|
    bif s.prevDslot then .refused .branchInDelaySlot
    else bif s.prevFlag || s.prevSrStatusL then .refused .returnTooSoon
    else bif s.condMet (jfCond form) then
      let t := s.returnTarget (jfLink2 form)
      withValue (s.slotCheck l kind (some t)) fun lpFree =>
        s.retire l { transfer := some (t, d), lpCountFree := lpFree, dslotForm := d } (s.restoreStatus (jfLink2 form))
    else
      withValue (s.slotCheck l kind none) fun _ => s.retire l { dslotForm := d } s

/-- The displacement of LP (R420). -/
def lpDisp : LpForm → Word
  | .s13 s => simm s 1
  | .ccu7 u _ => uimm u 1

/-- The condition of LP (R420). -/
def lpCond : LpForm → Option (BitVec 5)
  | .s13 _ => none
  | .ccu7 _ q => some q

/-- Whether a slot of a loop is one where LP may not stand (R427). -/
def State.lpBarred (s : State) (l : Len) : Bool :=
  match s.loopSlotOf l with
  | some k => decide (k < 2)
  | none => false

/-- The bytes of the first two instruction words from an address, each instruction and each long immediate being one
(R426, D24). Where one cannot be fetched its length is not known, DESIGN CHOICE (log 51): `none` for the first, and the second
counts the 2 bytes every instruction word has at least. -/
def State.twoWords (s : State) (start : Word) : Option Word :=
  match s.lenAt start with
  | none => none
  | some l =>
    bif l.limm then some l.bytes
    else match s.lenAt (start + l.bytes) with
      | some m => some (l.bytes + m.base)
      | none => some (l.bytes + 2#32)

/-- Whether the loop from `start` to `stop` holds fewer than two instruction words (R426): `stop` lies beyond `start`, but
not by two words (log 19). -/
def State.loopTooShort (s : State) (start stop : Word) : Bool :=
  match s.twoWords start with
  | some n => stop != start && (stop - start).ult n
  | none => false

/-- LPcc (R420): set up a loop from the next instruction to the given end, or branch over it when the condition is false. -/
def runLp (form : LpForm) (s : State) : Result :=
  let l : Len := ⟨false, false⟩
  let stop := s.pcl + lpDisp form
  s.start l none <|
    bif s.prevDslot then .refused .branchInDelaySlot
    else bif s.lpBarred l then .refused .loopSlot
    else bif s.condMet (lpCond form) then
      bif s.loopTooShort (s.npc l) stop then .refused .loopTooShort
      else s.retire l {} { s with lpStart := s.npc l, lpEnd := stop }
    else s.retire l { transfer := some (stop, false) } s

/-! ### The system instructions (45_aux_system.md) -/

/-- FLAG (R492): the flags and enables from the source, or halt when its bit 0 is 1. -/
def runFlag (x : DataArgs) (s : State) : Result :=
  s.start x.len none <|
    bif s.condMet x.cond then
      withValue (s.value x.len 1 x.src2) fun v =>
        let t := s.afterReads [x.src2]
        s.retire x.len { wasFlag := true }
          (bif bitAt v 0 then { t with h := true, sh := true, haltShadow := 3 } else t.setStatus v)
    else s.retire x.len { wasFlag := true } s

/-- The operands of LR: destination, auxiliary number, length (R490). -/
def lrArgs (form : LrForm) : DataArgs :=
  let len := len32 form.limmPart
  match form with
  | .bc b c limm => ⟨false, some b, none, .reg c limm, none, len⟩
  | .bs12 b s => ⟨false, some b, none, .imm (simm s 0), none, len⟩

/-- The operands of SR: data first, auxiliary number second (R491). -/
def srArgs (form : SrForm) : DataArgs :=
  let len := len32 form.limmPart
  match form with
  | .bc b c limm => ⟨false, none, some (.reg b limm), .reg c limm, none, len⟩
  | .bs12 b s limm => ⟨false, none, some (.reg b limm), .imm (simm s 0), none, len⟩

/-- LR (R490): the auxiliary register of the given number into the destination. -/
def runLr (x : DataArgs) (s : State) : Result :=
  s.start x.len none <|
    withValue (s.value x.len 1 x.src2) fun a =>
      s.retire x.len { wroteLpCount := x.dest == some 60#6 }
        ((s.afterReads [x.src2]).writeDest x.dest (s.auxRead a))

/-- Whether an auxiliary number is LP_START or LP_END (R653). -/
def isLoopBound (a : Word) : Bool := a == 0x2#32 || a == 0x3#32

/-- Whether a slot of a loop is one where an SR to LP_START or LP_END may not stand (43_branch_jump_loop.md R427). -/
def State.srBarred (s : State) (l : Len) (a : Word) : Bool :=
  isLoopBound a &&
    match s.loopSlotOf l with
    | some k => decide (k < 3)
    | none => false

/-- SR (R491): the data into the auxiliary register of the given number. DESIGN CHOICE (log 55): its operands are read before the
check of a running multiply, so an SR to MULHI that itself reads r57, r58 or r59 is accepted (R543, R645). -/
def runSr (x : DataArgs) (s : State) : Result :=
  s.start x.len none <|
    withValue (s.value1 x) fun v =>
    withValue (s.value x.len 1 x.src2) fun a =>
      let t := s.afterReads x.sources
      bif a == 0x12#32 && s.cfg.hasMul64 && t.mulBusy then .refused .mulHiBusy
      else bif s.srBarred x.len a then .refused .loopSlot
      else s.retire x.len { wroteLoopBounds := isLoopBound a, wasSrStatusL := a == 0xB#32 || a == 0xC#32 } (t.auxWrite a v)

/-- SLEEP (R493): the core sleeps; a NOP in a single step. -/
def runSleep (l : Len) (s : State) : Result :=
  s.start l none <|
    bif s.prevCmpBranch then .refused .afterCompareBranch
    else s.retire l {} { s with zz := s.zz || !s.singleStep }

/-- SWI (R494): Instruction Error with the address after it as return address. -/
def runSwi (l : Len) (s : State) : Result :=
  s.start l none <|
    bif s.prevCmpBranch then .refused .afterCompareBranch
    else bif s.delayTarget.isSome then .refused .swiInDelaySlot
    else .next (s.instructionError (s.npc l))

/-- BRK_S (R495): halt at this instruction, which does not complete. -/
def runBreak (l : Len) (s : State) : Result :=
  s.start l none <|
    bif s.delayTarget.isSome then .refused .breakInDelaySlot
    else .next { s with bh := true, h := true }

/-- NOP and NOP_S (R496): nothing but the pc; each counts down the halt shadow (70_reset_and_hazards.md R656). -/
def runNop (l : Len) (s : State) : Result := s.retire l {} { s with haltShadow := s.haltShadow - 1 }

end Sys2Proof.Machine
end

