-- ==== Sys2Proof/Machine/Arith.lean ====
section
/-! DEFINITION. The arithmetic instructions (40_alu_arith.md): one definition per instruction. -/

namespace Sys2Proof.Machine

/-- ADD (R221). -/
def execAdd (form : GenForm) (s : State) : Result := runData (.alu .add) (genArgs form) s

/-- ADC (R222). -/
def execAdc (form : GenForm) (s : State) : Result := runData (.alu .adc) (genArgs form) s

/-- SUB (R223). -/
def execSub (form : GenForm) (s : State) : Result := runData (.alu .sub) (genArgs form) s

/-- SBC (R224). -/
def execSbc (form : GenForm) (s : State) : Result := runData (.alu .sbc) (genArgs form) s

/-- MAX (R240). -/
def execMax (form : GenForm) (s : State) : Result := runData (.alu .max) (genArgs form) s

/-- MIN (R241). -/
def execMin (form : GenForm) (s : State) : Result := runData (.alu .min) (genArgs form) s

/-- RSUB (R225). -/
def execRsub (form : GenForm) (s : State) : Result := runData (.alu .rsub) (genArgs form) s

/-- ADD1 (R230). -/
def execAdd1 (form : GenForm) (s : State) : Result := runData (.alu .add1) (genArgs form) s

/-- ADD2 (R231). -/
def execAdd2 (form : GenForm) (s : State) : Result := runData (.alu .add2) (genArgs form) s

/-- ADD3 (R232). -/
def execAdd3 (form : GenForm) (s : State) : Result := runData (.alu .add3) (genArgs form) s

/-- SUB1 (R233). -/
def execSub1 (form : GenForm) (s : State) : Result := runData (.alu .sub1) (genArgs form) s

/-- SUB2 (R234). -/
def execSub2 (form : GenForm) (s : State) : Result := runData (.alu .sub2) (genArgs form) s

/-- SUB3 (R235). -/
def execSub3 (form : GenForm) (s : State) : Result := runData (.alu .sub3) (genArgs form) s

/-- CMP (R226). -/
def execCmp (form : CmpForm) (s : State) : Result := runData (.test .cmp) (cmpArgs form) s

/-- RCMP (R227). -/
def execRcmp (form : CmpForm) (s : State) : Result := runData (.test .rcmp) (cmpArgs form) s

/-- ABS (R245). -/
def execAbs (form : SopForm) (s : State) : Result := runData (.sop .abs) (sopArgs form) s

/-- `ADD_S a,b,c` (R221). -/
def execAddSAbc (a : Reg3) (b : Reg3) (c : Reg3) (s : State) : Result :=
  runData (.alu .add) (args16 (reg16 a) (some (op16 b)) (op16 c)) s

/-- `ADD_S c,b,u3` (R221). -/
def execAddSCbu3 (c : Reg3) (b : Reg3) (u : BitVec 3) (s : State) : Result :=
  runData (.alu .add) (args16 (reg16 c) (some (op16 b)) (.imm (uimm u 0))) s

/-- `SUB_S c,b,u3` (R223). -/
def execSubSCbu3 (c : Reg3) (b : Reg3) (u : BitVec 3) (s : State) : Result :=
  runData (.alu .sub) (args16 (reg16 c) (some (op16 b)) (.imm (uimm u 0))) s

/-- `ADD_S b,b,h` (R221). -/
def execAddSBbh (b : Reg3) (h : Reg) (limm : Word) (s : State) : Result :=
  runData (.alu .add) (args16h (reg16 b) (some (op16 b)) h limm) s

/-- `CMP_S b,h` (R226). -/
def execCmpSBh (b : Reg3) (h : Reg) (limm : Word) (s : State) : Result :=
  runData (.test .cmp) (args16f (op16 b) (.reg h limm) (isLimm h)) s

/-- `SUB_S b,b,c` (R223). -/
def execSubSBbc (b : Reg3) (c : Reg3) (s : State) : Result :=
  runData (.alu .sub) (args16 (reg16 b) (some (op16 b)) (op16 c)) s

/-- `ABS_S b,c` (R245). -/
def execAbsSBc (b : Reg3) (c : Reg3) (s : State) : Result := runData (.sop .abs) (args16 (reg16 b) none (op16 c)) s

/-- `NEG_S b,c` (R246). -/
def execNegSBc (b : Reg3) (c : Reg3) (s : State) : Result :=
  runData (.alu .sub) (args16 (reg16 b) (some (.imm 0#32)) (op16 c)) s

/-- `ADD1_S b,b,c` (R230). -/
def execAdd1SBbc (b : Reg3) (c : Reg3) (s : State) : Result :=
  runData (.alu .add1) (args16 (reg16 b) (some (op16 b)) (op16 c)) s

/-- `ADD2_S b,b,c` (R231). -/
def execAdd2SBbc (b : Reg3) (c : Reg3) (s : State) : Result :=
  runData (.alu .add2) (args16 (reg16 b) (some (op16 b)) (op16 c)) s

/-- `ADD3_S b,b,c` (R232). -/
def execAdd3SBbc (b : Reg3) (c : Reg3) (s : State) : Result :=
  runData (.alu .add3) (args16 (reg16 b) (some (op16 b)) (op16 c)) s

/-- `SUB_S.NE b,b,b` (R223). -/
def execSubSNe (b : Reg3) (s : State) : Result :=
  runData .mov { args16 (reg16 b) none (.imm 0#32) with cond := some 2#5 } s

/-- `SUB_S b,b,u5` (R223). -/
def execSubSBbu5 (b : Reg3) (u : BitVec 5) (s : State) : Result :=
  runData (.alu .sub) (args16 (reg16 b) (some (op16 b)) (.imm (uimm u 0))) s

/-- `ADD_S b,sp,u7` (R221). -/
def execAddSBspu7 (b : Reg3) (u : BitVec 5) (s : State) : Result :=
  runData (.alu .add) (args16 (reg16 b) (some (.reg rSP 0#32)) (.imm (uimm u 2))) s

/-- `ADD_S sp,sp,u7` (R221). -/
def execAddSSpspu7 (u : BitVec 5) (s : State) : Result :=
  runData (.alu .add) (args16 rSP (some (.reg rSP 0#32)) (.imm (uimm u 2))) s

/-- `SUB_S sp,sp,u7` (R223). -/
def execSubSSpspu7 (u : BitVec 5) (s : State) : Result :=
  runData (.alu .sub) (args16 rSP (some (.reg rSP 0#32)) (.imm (uimm u 2))) s

/-- `ADD_S r0,gp,s11` (R221). -/
def execAddSR0gp (s : BitVec 9) (st : State) : Result :=
  runData (.alu .add) (args16 0#6 (some (.reg rGP 0#32)) (.imm (simm s 2))) st

/-- `ADD_S b,b,u7` (R221). -/
def execAddSBbu7 (b : Reg3) (u : BitVec 7) (s : State) : Result :=
  runData (.alu .add) (args16 (reg16 b) (some (op16 b)) (.imm (uimm u 0))) s

/-- `CMP_S b,u7` (R226). -/
def execCmpSBu7 (b : Reg3) (u : BitVec 7) (s : State) : Result :=
  runData (.test .cmp) (args16f (op16 b) (.imm (uimm u 0)) false) s

end Sys2Proof.Machine
end

