-- ==== Sys2Proof/Machine/Control.lean ====
section
/-! DEFINITION. The branches, jumps and LP (43_branch_jump_loop.md): one definition per instruction. -/

namespace Sys2Proof.Machine

/-- J (R400). -/
def execJ (form : JForm) (s : State) : Result := runBranch (jumpArgs false (jArgs form)) s

/-- J.D (R400). -/
def execJD (form : JDForm) (s : State) : Result := runBranch (jumpDArgs false (jdArgs form)) s

/-- JL (R405). -/
def execJl (form : JForm) (s : State) : Result := runBranch (jumpArgs true (jArgs form)) s

/-- JL.D (R405). -/
def execJlD (form : JDForm) (s : State) : Result := runBranch (jumpDArgs true (jdArgs form)) s

/-- J.F (R401). -/
def execJF (form : JFForm) (s : State) : Result := runReturn form s

/-- LP (R420). -/
def execLp (form : LpForm) (s : State) : Result := runLp form s

/-- `B<cc><.d> s21` (R380). -/
def execBcc (s : BitVec 20) (n : Bool) (q : BitVec 5) (st : State) : Result :=
  runBranch (relArgs (some q) (simm s 1) false n ⟨false, false⟩) st

/-- `B<.d> s25` (R381). -/
def execBS25 (s : BitVec 24) (n : Bool) (st : State) : Result :=
  runBranch (relArgs none (simm s 1) false n ⟨false, false⟩) st

/-- `BL<cc><.d> s21` (R385). -/
def execBlcc (s : BitVec 19) (n : Bool) (q : BitVec 5) (st : State) : Result :=
  runBranch (relArgs (some q) (simm s 2) true n ⟨false, false⟩) st

/-- `BL<.d> s25` (R386). -/
def execBl (s : BitVec 23) (n : Bool) (st : State) : Result :=
  runBranch (relArgs none (simm s 2) true n ⟨false, false⟩) st

/-- BREQ (R390). -/
def execBreq (form : BrForm) (s : State) : Result := runBranch (brArgs .breq form) s

/-- BRNE (R390). -/
def execBrne (form : BrForm) (s : State) : Result := runBranch (brArgs .brne form) s

/-- BRLT (R390). -/
def execBrlt (form : BrForm) (s : State) : Result := runBranch (brArgs .brlt form) s

/-- BRGE (R390). -/
def execBrge (form : BrForm) (s : State) : Result := runBranch (brArgs .brge form) s

/-- BRLO (R390). -/
def execBrlo (form : BrForm) (s : State) : Result := runBranch (brArgs .brlo form) s

/-- BRHS (R390). -/
def execBrhs (form : BrForm) (s : State) : Result := runBranch (brArgs .brhs form) s

/-- BBIT0 (R392). -/
def execBbit0 (form : BrForm) (s : State) : Result := runBranch (brArgs .bbit0 form) s

/-- BBIT1 (R393). -/
def execBbit1 (form : BrForm) (s : State) : Result := runBranch (brArgs .bbit1 form) s

/-- `J_S [b]` (R402). -/
def execJSB (b : Reg3) (s : State) : Result := runBranch (j16Args .always (op16 b) false false) s

/-- `J_S.D [b]` (R402). -/
def execJSDB (b : Reg3) (s : State) : Result := runBranch (j16Args .always (op16 b) false true) s

/-- `JL_S [b]` (R406). -/
def execJlSB (b : Reg3) (s : State) : Result := runBranch (j16Args .always (op16 b) true false) s

/-- `JL_S.D [b]` (R406). -/
def execJlSDB (b : Reg3) (s : State) : Result := runBranch (j16Args .always (op16 b) true true) s

/-- `JEQ_S [blink]` (R402). -/
def execJeqSBlink (s : State) : Result := runBranch (j16Args (.cond 1#5) (.reg rBLINK 0#32) false false) s

/-- `JNE_S [blink]` (R402). -/
def execJneSBlink (s : State) : Result := runBranch (j16Args (.cond 2#5) (.reg rBLINK 0#32) false false) s

/-- `J_S [blink]` (R402). -/
def execJSBlink (s : State) : Result := runBranch (j16Args .always (.reg rBLINK 0#32) false false) s

/-- `J_S.D [blink]` (R402). -/
def execJSDBlink (s : State) : Result := runBranch (j16Args .always (.reg rBLINK 0#32) false true) s

/-- `BREQ_S b,0,s8` (R391). -/
def execBreqS (b : Reg3) (s : BitVec 7) (st : State) : Result := runBranch (br16Args false b s) st

/-- `BRNE_S b,0,s8` (R391). -/
def execBrneS (b : Reg3) (s : BitVec 7) (st : State) : Result := runBranch (br16Args true b s) st

/-- `B_S s10` (R382). -/
def execBS (s : BitVec 9) (st : State) : Result := runBranch (relArgs none (simm s 1) false false len16) st

/-- `BEQ_S s10` (R382). -/
def execBeqS (s : BitVec 9) (st : State) : Result := runBranch (relArgs (some 1#5) (simm s 1) false false len16) st

/-- `BNE_S s10` (R382). -/
def execBneS (s : BitVec 9) (st : State) : Result := runBranch (relArgs (some 2#5) (simm s 1) false false len16) st

/-- `BGT_S s7` (R383). -/
def execBgtS (s : BitVec 6) (st : State) : Result := runBranch (relArgs (some 0x9#5) (simm s 1) false false len16) st

/-- `BGE_S s7` (R383). -/
def execBgeS (s : BitVec 6) (st : State) : Result := runBranch (relArgs (some 0xA#5) (simm s 1) false false len16) st

/-- `BLT_S s7` (R383). -/
def execBltS (s : BitVec 6) (st : State) : Result := runBranch (relArgs (some 0xB#5) (simm s 1) false false len16) st

/-- `BLE_S s7` (R383). -/
def execBleS (s : BitVec 6) (st : State) : Result := runBranch (relArgs (some 0xC#5) (simm s 1) false false len16) st

/-- `BHI_S s7` (R383). -/
def execBhiS (s : BitVec 6) (st : State) : Result := runBranch (relArgs (some 0xD#5) (simm s 1) false false len16) st

/-- `BHS_S s7` (R383). -/
def execBhsS (s : BitVec 6) (st : State) : Result := runBranch (relArgs (some 0x6#5) (simm s 1) false false len16) st

/-- `BLO_S s7` (R383). -/
def execBloS (s : BitVec 6) (st : State) : Result := runBranch (relArgs (some 0x5#5) (simm s 1) false false len16) st

/-- `BLS_S s7` (R383). -/
def execBlsS (s : BitVec 6) (st : State) : Result := runBranch (relArgs (some 0xE#5) (simm s 1) false false len16) st

/-- `BL_S s13` (R387). -/
def execBlS (s : BitVec 11) (st : State) : Result := runBranch (relArgs none (simm s 2) true false len16) st

end Sys2Proof.Machine
end

