-- ==== Sys2Proof/Machine/Extension.lean ====
section
/-! DEFINITION. The optional multiply, swap and normalize instructions (46_extensions.md): one definition per instruction. -/

namespace Sys2Proof.Machine

/-- MUL64 (R540). -/
def execMul64 (form : CmpForm) (s : State) : Result := runMul true (cmpArgs form) s

/-- MULU64 (R541). -/
def execMulu64 (form : CmpForm) (s : State) : Result := runMul false (cmpArgs form) s

/-- SWAP (R545). -/
def execSwap (form : SopForm) (s : State) : Result := runData (.sop .swap) (sopArgs form) s

/-- NORM (R546). -/
def execNorm (form : SopForm) (s : State) : Result := runData (.sop .norm) (sopArgs form) s

/-- NORMW (R547). -/
def execNormw (form : SopForm) (s : State) : Result := runData (.sop .normw) (sopArgs form) s

/-- `MUL64_S <0,>b,c` (R542). -/
def execMul64SBc (b : Reg3) (c : Reg3) (s : State) : Result :=
  runMul true ⟨false, none, some (op16 b), op16 c, none, len16⟩ s

end Sys2Proof.Machine
end

