-- ==== Sys2Proof/Machine/LoadStore.lean ====
section
/-! DEFINITION. The loads and stores (44_load_store.md): one definition per instruction. -/

namespace Sys2Proof.Machine

/-- LD (R441, R440). -/
def execLd (form : LdForm) (s : State) : Result := runLoad false (ldDest form) (ldArgs .long form) s

/-- LDB (R441, R440). -/
def execLdb (x : Bool) (form : LdForm) (s : State) : Result := runLoad x (ldDest form) (ldArgs .byte form) s

/-- LDW (R441, R440). -/
def execLdw (x : Bool) (form : LdForm) (s : State) : Result := runLoad x (ldDest form) (ldArgs .half form) s

/-- `ST<.aa><.di> c,[b,s9]` (R460). -/
def execStCbs9 (c : Reg) (b : Reg) (s : BitVec 9) (aa : BitVec 2) (_di : Bool) (limm : Word) (st : State) : Result :=
  runStore (.reg c limm) (stArgs .long c b s aa limm) st

/-- `STB<.aa><.di> c,[b,s9]` (R460). -/
def execStbCbs9 (c : Reg) (b : Reg) (s : BitVec 9) (aa : BitVec 2) (_di : Bool) (limm : Word) (st : State) : Result :=
  runStore (.reg c limm) (stArgs .byte c b s aa limm) st

/-- `STW<.aa><.di> c,[b,s9]` (R460). -/
def execStwCbs9 (c : Reg) (b : Reg) (s : BitVec 9) (aa : BitVec 2) (_di : Bool) (limm : Word) (st : State) : Result :=
  runStore (.reg c limm) (stArgs .half c b s aa limm) st

/-- `LD_S a,[b,c]` (R450). -/
def execLdSAbc (a : Reg3) (b : Reg3) (c : Reg3) (s : State) : Result :=
  runLoad false (reg16 a) (mem16 .long (op16 b) (op16 c)) s

/-- `LDB_S a,[b,c]` (R450). -/
def execLdbSAbc (a : Reg3) (b : Reg3) (c : Reg3) (s : State) : Result :=
  runLoad false (reg16 a) (mem16 .byte (op16 b) (op16 c)) s

/-- `LDW_S a,[b,c]` (R450). -/
def execLdwSAbc (a : Reg3) (b : Reg3) (c : Reg3) (s : State) : Result :=
  runLoad false (reg16 a) (mem16 .half (op16 b) (op16 c)) s

/-- `LD_S c,[b,u7]` (R451). -/
def execLdSCbu7 (c : Reg3) (b : Reg3) (u : BitVec 5) (s : State) : Result :=
  runLoad false (reg16 c) (mem16 .long (op16 b) (.imm (uimm u 2))) s

/-- `LDB_S c,[b,u5]` (R451). -/
def execLdbSCbu5 (c : Reg3) (b : Reg3) (u : BitVec 5) (s : State) : Result :=
  runLoad false (reg16 c) (mem16 .byte (op16 b) (.imm (uimm u 0))) s

/-- `LDW_S c,[b,u6]` (R451). -/
def execLdwSCbu6 (c : Reg3) (b : Reg3) (u : BitVec 5) (s : State) : Result :=
  runLoad false (reg16 c) (mem16 .half (op16 b) (.imm (uimm u 1))) s

/-- `LDW_S.X c,[b,u6]` (R451). -/
def execLdwSXCbu6 (c : Reg3) (b : Reg3) (u : BitVec 5) (s : State) : Result :=
  runLoad true (reg16 c) (mem16 .half (op16 b) (.imm (uimm u 1))) s

/-- `ST_S c,[b,u7]` (R461). -/
def execStSCbu7 (c : Reg3) (b : Reg3) (u : BitVec 5) (s : State) : Result :=
  runStore (op16 c) (mem16 .long (op16 b) (.imm (uimm u 2))) s

/-- `STB_S c,[b,u5]` (R461). -/
def execStbSCbu5 (c : Reg3) (b : Reg3) (u : BitVec 5) (s : State) : Result :=
  runStore (op16 c) (mem16 .byte (op16 b) (.imm (uimm u 0))) s

/-- `STW_S c,[b,u6]` (R461). -/
def execStwSCbu6 (c : Reg3) (b : Reg3) (u : BitVec 5) (s : State) : Result :=
  runStore (op16 c) (mem16 .half (op16 b) (.imm (uimm u 1))) s

/-- `LD_S b,[sp,u7]` (R452). -/
def execLdSBspu7 (b : Reg3) (u : BitVec 5) (s : State) : Result :=
  runLoad false (reg16 b) (mem16 .long (.reg rSP 0#32) (.imm (uimm u 2))) s

/-- `LDB_S b,[sp,u7]` (R452). -/
def execLdbSBspu7 (b : Reg3) (u : BitVec 5) (s : State) : Result :=
  runLoad false (reg16 b) (mem16 .byte (.reg rSP 0#32) (.imm (uimm u 2))) s

/-- `ST_S b,[sp,u7]` (R462). -/
def execStSBspu7 (b : Reg3) (u : BitVec 5) (s : State) : Result :=
  runStore (op16 b) (mem16 .long (.reg rSP 0#32) (.imm (uimm u 2))) s

/-- `STB_S b,[sp,u7]` (R462). -/
def execStbSBspu7 (b : Reg3) (u : BitVec 5) (s : State) : Result :=
  runStore (op16 b) (mem16 .byte (.reg rSP 0#32) (.imm (uimm u 2))) s

/-- `POP_S b` (R455). -/
def execPopSB (b : Reg3) (s : State) : Result := runLoad false (reg16 b) popArgs s

/-- `POP_S blink` (R455). -/
def execPopSBlink (s : State) : Result := runLoad false rBLINK popArgs s

/-- `PUSH_S b` (R463). -/
def execPushSB (b : Reg3) (s : State) : Result := runStore (op16 b) pushArgs s

/-- `PUSH_S blink` (R463). -/
def execPushSBlink (s : State) : Result := runStore (.reg rBLINK 0#32) pushArgs s

/-- `LD_S r0,[gp,s11]` (R453). -/
def execLdSR0gp (s : BitVec 9) (st : State) : Result :=
  runLoad false 0#6 (mem16 .long (.reg rGP 0#32) (.imm (simm s 2))) st

/-- `LDB_S r0,[gp,s9]` (R453). -/
def execLdbSR0gp (s : BitVec 9) (st : State) : Result :=
  runLoad false 0#6 (mem16 .byte (.reg rGP 0#32) (.imm (simm s 0))) st

/-- `LDW_S r0,[gp,s10]` (R453). -/
def execLdwSR0gp (s : BitVec 9) (st : State) : Result :=
  runLoad false 0#6 (mem16 .half (.reg rGP 0#32) (.imm (simm s 1))) st

/-- `LD_S b,[pcl,u10]` (R454). -/
def execLdSBpclu10 (b : Reg3) (u : BitVec 8) (s : State) : Result :=
  runLoad false (reg16 b) (mem16 .long (.reg 63#6 0#32) (.imm (uimm u 2))) s

end Sys2Proof.Machine
end

