-- ==== Sys2Proof/Machine/Logic.lean ====
section
/-! DEFINITION. The logical, move, bit and extension-of-sign instructions (41_logic_move_bit.md): one definition per instruction. -/

namespace Sys2Proof.Machine

/-- AND (R281). -/
def execAnd (form : GenForm) (s : State) : Result := runData (.alu .and) (genArgs form) s

/-- OR (R282). -/
def execOr (form : GenForm) (s : State) : Result := runData (.alu .or) (genArgs form) s

/-- BIC (R283). -/
def execBic (form : GenForm) (s : State) : Result := runData (.alu .bic) (genArgs form) s

/-- XOR (R284). -/
def execXor (form : GenForm) (s : State) : Result := runData (.alu .xor) (genArgs form) s

/-- BSET (R300). -/
def execBset (form : GenForm) (s : State) : Result := runData (.alu .bset) (genArgs form) s

/-- BCLR (R301). -/
def execBclr (form : GenForm) (s : State) : Result := runData (.alu .bclr) (genArgs form) s

/-- BXOR (R303). -/
def execBxor (form : GenForm) (s : State) : Result := runData (.alu .bxor) (genArgs form) s

/-- BMSK (R304). -/
def execBmsk (form : GenForm) (s : State) : Result := runData (.alu .bmsk) (genArgs form) s

/-- MOV (R290). -/
def execMov (form : MovForm) (s : State) : Result := runData .mov (movArgs form) s

/-- TST (R286). -/
def execTst (form : CmpForm) (s : State) : Result := runData (.test .tst) (cmpArgs form) s

/-- BTST (R302). -/
def execBtst (form : CmpForm) (s : State) : Result := runData (.test .btst) (cmpArgs form) s

/-- SEXB (R310). -/
def execSexb (form : SopForm) (s : State) : Result := runData (.sop .sexb) (sopArgs form) s

/-- SEXW (R311). -/
def execSexw (form : SopForm) (s : State) : Result := runData (.sop .sexw) (sopArgs form) s

/-- EXTB (R312). -/
def execExtb (form : SopForm) (s : State) : Result := runData (.sop .extb) (sopArgs form) s

/-- EXTW (R313). -/
def execExtw (form : SopForm) (s : State) : Result := runData (.sop .extw) (sopArgs form) s

/-- NOT (R285). -/
def execNot (form : SopForm) (s : State) : Result := runData (.sop .not) (sopArgs form) s

/-- `MOV_S b,h` (R290). -/
def execMovSBh (b : Reg3) (h : Reg) (limm : Word) (s : State) : Result := runData .mov (args16h (reg16 b) none h limm) s

/-- `MOV_S h,b` (R290). -/
def execMovSHb (h : Reg) (b : Reg3) (s : State) : Result := runData .mov (args16 h none (op16 b)) s

/-- `AND_S b,b,c` (R281). -/
def execAndSBbc (b : Reg3) (c : Reg3) (s : State) : Result :=
  runData (.alu .and) (args16 (reg16 b) (some (op16 b)) (op16 c)) s

/-- `OR_S b,b,c` (R282). -/
def execOrSBbc (b : Reg3) (c : Reg3) (s : State) : Result :=
  runData (.alu .or) (args16 (reg16 b) (some (op16 b)) (op16 c)) s

/-- `BIC_S b,b,c` (R283). -/
def execBicSBbc (b : Reg3) (c : Reg3) (s : State) : Result :=
  runData (.alu .bic) (args16 (reg16 b) (some (op16 b)) (op16 c)) s

/-- `XOR_S b,b,c` (R284). -/
def execXorSBbc (b : Reg3) (c : Reg3) (s : State) : Result :=
  runData (.alu .xor) (args16 (reg16 b) (some (op16 b)) (op16 c)) s

/-- `TST_S b,c` (R286). -/
def execTstSBc (b : Reg3) (c : Reg3) (s : State) : Result := runData (.test .tst) (args16f (op16 b) (op16 c) false) s

/-- `SEXB_S b,c` (R310). -/
def execSexbSBc (b : Reg3) (c : Reg3) (s : State) : Result := runData (.sop .sexb) (args16 (reg16 b) none (op16 c)) s

/-- `SEXW_S b,c` (R311). -/
def execSexwSBc (b : Reg3) (c : Reg3) (s : State) : Result := runData (.sop .sexw) (args16 (reg16 b) none (op16 c)) s

/-- `EXTB_S b,c` (R312). -/
def execExtbSBc (b : Reg3) (c : Reg3) (s : State) : Result := runData (.sop .extb) (args16 (reg16 b) none (op16 c)) s

/-- `EXTW_S b,c` (R313). -/
def execExtwSBc (b : Reg3) (c : Reg3) (s : State) : Result := runData (.sop .extw) (args16 (reg16 b) none (op16 c)) s

/-- `NOT_S b,c` (R285). -/
def execNotSBc (b : Reg3) (c : Reg3) (s : State) : Result := runData (.sop .not) (args16 (reg16 b) none (op16 c)) s

/-- `BSET_S b,b,u5` (R300). -/
def execBsetSBbu5 (b : Reg3) (u : BitVec 5) (s : State) : Result :=
  runData (.alu .bset) (args16 (reg16 b) (some (op16 b)) (.imm (uimm u 0))) s

/-- `BCLR_S b,b,u5` (R301). -/
def execBclrSBbu5 (b : Reg3) (u : BitVec 5) (s : State) : Result :=
  runData (.alu .bclr) (args16 (reg16 b) (some (op16 b)) (.imm (uimm u 0))) s

/-- `BMSK_S b,b,u5` (R304). -/
def execBmskSBbu5 (b : Reg3) (u : BitVec 5) (s : State) : Result :=
  runData (.alu .bmsk) (args16 (reg16 b) (some (op16 b)) (.imm (uimm u 0))) s

/-- `BTST_S b,u5` (R302). -/
def execBtstSBu5 (b : Reg3) (u : BitVec 5) (s : State) : Result :=
  runData (.test .btst) (args16f (op16 b) (.imm (uimm u 0)) false) s

/-- `MOV_S b,u8` (R290). -/
def execMovSBu8 (b : Reg3) (u : BitVec 8) (s : State) : Result :=
  runData .mov (args16 (reg16 b) none (.imm (uimm u 0))) s

end Sys2Proof.Machine
end

