-- ==== Sys2Proof/Machine/Shift.lean ====
section
/-! DEFINITION. The shift and rotate instructions (42_shift_rotate.md): one definition per instruction. -/

namespace Sys2Proof.Machine

/-- ASL (R331). -/
def execAsl (form : SopForm) (s : State) : Result := runData (.sop .asl) (sopArgs form) s

/-- ASR (R332). -/
def execAsr (form : SopForm) (s : State) : Result := runData (.sop .asr) (sopArgs form) s

/-- LSR (R333). -/
def execLsr (form : SopForm) (s : State) : Result := runData (.sop .lsr) (sopArgs form) s

/-- ROR (R334). -/
def execRor (form : SopForm) (s : State) : Result := runData (.sop .ror) (sopArgs form) s

/-- RRC (R335). -/
def execRrc (form : SopForm) (s : State) : Result := runData (.sop .rrc) (sopArgs form) s

/-- RLC (R336). -/
def execRlc (form : SopForm) (s : State) : Result := runData (.sop .rlc) (sopArgs form) s

/-- ASL (R340). -/
def execAslMulti (form : GenForm) (s : State) : Result := runData (.alu .asl) (genArgs form) s

/-- LSR (R341). -/
def execLsrMulti (form : GenForm) (s : State) : Result := runData (.alu .lsr) (genArgs form) s

/-- ASR (R342). -/
def execAsrMulti (form : GenForm) (s : State) : Result := runData (.alu .asr) (genArgs form) s

/-- ROR (R343). -/
def execRorMulti (form : GenForm) (s : State) : Result := runData (.alu .ror) (genArgs form) s

/-- `ASL_S c,b,u3` (R340). -/
def execAslSCbu3 (c : Reg3) (b : Reg3) (u : BitVec 3) (s : State) : Result :=
  runData (.alu .asl) (args16 (reg16 c) (some (op16 b)) (.imm (uimm u 0))) s

/-- `ASR_S c,b,u3` (R342). -/
def execAsrSCbu3 (c : Reg3) (b : Reg3) (u : BitVec 3) (s : State) : Result :=
  runData (.alu .asr) (args16 (reg16 c) (some (op16 b)) (.imm (uimm u 0))) s

/-- `ASL_S b,b,c` (R340). -/
def execAslSBbc (b : Reg3) (c : Reg3) (s : State) : Result :=
  runData (.alu .asl) (args16 (reg16 b) (some (op16 b)) (op16 c)) s

/-- `LSR_S b,b,c` (R341). -/
def execLsrSBbc (b : Reg3) (c : Reg3) (s : State) : Result :=
  runData (.alu .lsr) (args16 (reg16 b) (some (op16 b)) (op16 c)) s

/-- `ASR_S b,b,c` (R342). -/
def execAsrSBbc (b : Reg3) (c : Reg3) (s : State) : Result :=
  runData (.alu .asr) (args16 (reg16 b) (some (op16 b)) (op16 c)) s

/-- `ASL_S b,c` (R331). -/
def execAslSBc (b : Reg3) (c : Reg3) (s : State) : Result := runData (.sop .asl) (args16 (reg16 b) none (op16 c)) s

/-- `ASR_S b,c` (R332). -/
def execAsrSBc (b : Reg3) (c : Reg3) (s : State) : Result := runData (.sop .asr) (args16 (reg16 b) none (op16 c)) s

/-- `LSR_S b,c` (R333). -/
def execLsrSBc (b : Reg3) (c : Reg3) (s : State) : Result := runData (.sop .lsr) (args16 (reg16 b) none (op16 c)) s

/-- `ASL_S b,b,u5` (R340). -/
def execAslSBbu5 (b : Reg3) (u : BitVec 5) (s : State) : Result :=
  runData (.alu .asl) (args16 (reg16 b) (some (op16 b)) (.imm (uimm u 0))) s

/-- `LSR_S b,b,u5` (R341). -/
def execLsrSBbu5 (b : Reg3) (u : BitVec 5) (s : State) : Result :=
  runData (.alu .lsr) (args16 (reg16 b) (some (op16 b)) (.imm (uimm u 0))) s

/-- `ASR_S b,b,u5` (R342). -/
def execAsrSBbu5 (b : Reg3) (u : BitVec 5) (s : State) : Result :=
  runData (.alu .asr) (args16 (reg16 b) (some (op16 b)) (.imm (uimm u 0))) s

end Sys2Proof.Machine
end

