-- ==== Sys2Proof/Machine/System.lean ====
section
/-! DEFINITION. The auxiliary register and processor control instructions (45_aux_system.md): one definition per instruction. -/

namespace Sys2Proof.Machine

/-- `NOP` (R496). -/
def execNop (s : State) : Result := runNop ⟨false, false⟩ s

/-- FLAG (R492). -/
def execFlag (form : JForm) (s : State) : Result := runFlag (jArgs form) s

/-- LR (R490). -/
def execLr (form : LrForm) (s : State) : Result := runLr (lrArgs form) s

/-- SR (R491). -/
def execSr (form : SrForm) (s : State) : Result := runSr (srArgs form) s

/-- `SLEEP` (R493). -/
def execSleep (s : State) : Result := runSleep ⟨false, false⟩ s

/-- `SWI` (R494). -/
def execSwi (s : State) : Result := runSwi ⟨false, false⟩ s

/-- `BRK_S` (R495). -/
def execBrkS (s : State) : Result := runBreak len16 s

/-- `NOP_S` (R496). -/
def execNopS (s : State) : Result := runNop len16 s

end Sys2Proof.Machine
end

