-- ==== Sys2Proof/Machine/Dispatch.lean ====
section
/-! DEFINITION. One arm per instruction. -/

namespace Sys2Proof.Machine

def exec (i : Instr) (s : State) : Host.Outcome State Fault Refusal :=
  match i with
  | .add form => Sys2Proof.Machine.execAdd form s
  | .adc form => Sys2Proof.Machine.execAdc form s
  | .sub form => Sys2Proof.Machine.execSub form s
  | .sbc form => Sys2Proof.Machine.execSbc form s
  | .and form => Sys2Proof.Machine.execAnd form s
  | .or form => Sys2Proof.Machine.execOr form s
  | .bic form => Sys2Proof.Machine.execBic form s
  | .xor form => Sys2Proof.Machine.execXor form s
  | .max form => Sys2Proof.Machine.execMax form s
  | .min form => Sys2Proof.Machine.execMin form s
  | .rsub form => Sys2Proof.Machine.execRsub form s
  | .bset form => Sys2Proof.Machine.execBset form s
  | .bclr form => Sys2Proof.Machine.execBclr form s
  | .bxor form => Sys2Proof.Machine.execBxor form s
  | .bmsk form => Sys2Proof.Machine.execBmsk form s
  | .add1 form => Sys2Proof.Machine.execAdd1 form s
  | .add2 form => Sys2Proof.Machine.execAdd2 form s
  | .add3 form => Sys2Proof.Machine.execAdd3 form s
  | .sub1 form => Sys2Proof.Machine.execSub1 form s
  | .sub2 form => Sys2Proof.Machine.execSub2 form s
  | .sub3 form => Sys2Proof.Machine.execSub3 form s
  | .mov form => Sys2Proof.Machine.execMov form s
  | .nop => Sys2Proof.Machine.execNop s
  | .tst form => Sys2Proof.Machine.execTst form s
  | .cmp form => Sys2Proof.Machine.execCmp form s
  | .rcmp form => Sys2Proof.Machine.execRcmp form s
  | .btst form => Sys2Proof.Machine.execBtst form s
  | .j form => Sys2Proof.Machine.execJ form s
  | .j_d form => Sys2Proof.Machine.execJD form s
  | .jl form => Sys2Proof.Machine.execJl form s
  | .jl_d form => Sys2Proof.Machine.execJlD form s
  | .j_f form => Sys2Proof.Machine.execJF form s
  | .lp form => Sys2Proof.Machine.execLp form s
  | .flag form => Sys2Proof.Machine.execFlag form s
  | .lr form => Sys2Proof.Machine.execLr form s
  | .sr form => Sys2Proof.Machine.execSr form s
  | .asl form => Sys2Proof.Machine.execAsl form s
  | .asr form => Sys2Proof.Machine.execAsr form s
  | .lsr form => Sys2Proof.Machine.execLsr form s
  | .ror form => Sys2Proof.Machine.execRor form s
  | .rrc form => Sys2Proof.Machine.execRrc form s
  | .sexb form => Sys2Proof.Machine.execSexb form s
  | .sexw form => Sys2Proof.Machine.execSexw form s
  | .extb form => Sys2Proof.Machine.execExtb form s
  | .extw form => Sys2Proof.Machine.execExtw form s
  | .abs form => Sys2Proof.Machine.execAbs form s
  | .not form => Sys2Proof.Machine.execNot form s
  | .rlc form => Sys2Proof.Machine.execRlc form s
  | .sleep => Sys2Proof.Machine.execSleep s
  | .swi => Sys2Proof.Machine.execSwi s
  | .ld form => Sys2Proof.Machine.execLd form s
  | .ldb x form => Sys2Proof.Machine.execLdb x form s
  | .ldw x form => Sys2Proof.Machine.execLdw x form s
  | .asl_multi form => Sys2Proof.Machine.execAslMulti form s
  | .lsr_multi form => Sys2Proof.Machine.execLsrMulti form s
  | .asr_multi form => Sys2Proof.Machine.execAsrMulti form s
  | .ror_multi form => Sys2Proof.Machine.execRorMulti form s
  | .mul64 form => Sys2Proof.Machine.execMul64 form s
  | .mulu64 form => Sys2Proof.Machine.execMulu64 form s
  | .swap form => Sys2Proof.Machine.execSwap form s
  | .norm form => Sys2Proof.Machine.execNorm form s
  | .normw form => Sys2Proof.Machine.execNormw form s
  | .bcc disp n q => Sys2Proof.Machine.execBcc disp n q s
  | .b_s25 disp n => Sys2Proof.Machine.execBS25 disp n s
  | .blcc disp n q => Sys2Proof.Machine.execBlcc disp n q s
  | .bl disp n => Sys2Proof.Machine.execBl disp n s
  | .breq form => Sys2Proof.Machine.execBreq form s
  | .brne form => Sys2Proof.Machine.execBrne form s
  | .brlt form => Sys2Proof.Machine.execBrlt form s
  | .brge form => Sys2Proof.Machine.execBrge form s
  | .brlo form => Sys2Proof.Machine.execBrlo form s
  | .brhs form => Sys2Proof.Machine.execBrhs form s
  | .bbit0 form => Sys2Proof.Machine.execBbit0 form s
  | .bbit1 form => Sys2Proof.Machine.execBbit1 form s
  | .st_cbs9 c b disp aa di limm => Sys2Proof.Machine.execStCbs9 c b disp aa di limm s
  | .stb_cbs9 c b disp aa di limm => Sys2Proof.Machine.execStbCbs9 c b disp aa di limm s
  | .stw_cbs9 c b disp aa di limm => Sys2Proof.Machine.execStwCbs9 c b disp aa di limm s
  | .ld_s_abc a b c => Sys2Proof.Machine.execLdSAbc a b c s
  | .ldb_s_abc a b c => Sys2Proof.Machine.execLdbSAbc a b c s
  | .ldw_s_abc a b c => Sys2Proof.Machine.execLdwSAbc a b c s
  | .add_s_abc a b c => Sys2Proof.Machine.execAddSAbc a b c s
  | .add_s_cbu3 c b u => Sys2Proof.Machine.execAddSCbu3 c b u s
  | .sub_s_cbu3 c b u => Sys2Proof.Machine.execSubSCbu3 c b u s
  | .asl_s_cbu3 c b u => Sys2Proof.Machine.execAslSCbu3 c b u s
  | .asr_s_cbu3 c b u => Sys2Proof.Machine.execAsrSCbu3 c b u s
  | .add_s_bbh b h limm => Sys2Proof.Machine.execAddSBbh b h limm s
  | .mov_s_bh b h limm => Sys2Proof.Machine.execMovSBh b h limm s
  | .cmp_s_bh b h limm => Sys2Proof.Machine.execCmpSBh b h limm s
  | .mov_s_hb h b => Sys2Proof.Machine.execMovSHb h b s
  | .sub_s_bbc b c => Sys2Proof.Machine.execSubSBbc b c s
  | .and_s_bbc b c => Sys2Proof.Machine.execAndSBbc b c s
  | .or_s_bbc b c => Sys2Proof.Machine.execOrSBbc b c s
  | .bic_s_bbc b c => Sys2Proof.Machine.execBicSBbc b c s
  | .xor_s_bbc b c => Sys2Proof.Machine.execXorSBbc b c s
  | .tst_s_bc b c => Sys2Proof.Machine.execTstSBc b c s
  | .mul64_s_bc b c => Sys2Proof.Machine.execMul64SBc b c s
  | .sexb_s_bc b c => Sys2Proof.Machine.execSexbSBc b c s
  | .sexw_s_bc b c => Sys2Proof.Machine.execSexwSBc b c s
  | .extb_s_bc b c => Sys2Proof.Machine.execExtbSBc b c s
  | .extw_s_bc b c => Sys2Proof.Machine.execExtwSBc b c s
  | .abs_s_bc b c => Sys2Proof.Machine.execAbsSBc b c s
  | .not_s_bc b c => Sys2Proof.Machine.execNotSBc b c s
  | .neg_s_bc b c => Sys2Proof.Machine.execNegSBc b c s
  | .add1_s_bbc b c => Sys2Proof.Machine.execAdd1SBbc b c s
  | .add2_s_bbc b c => Sys2Proof.Machine.execAdd2SBbc b c s
  | .add3_s_bbc b c => Sys2Proof.Machine.execAdd3SBbc b c s
  | .asl_s_bbc b c => Sys2Proof.Machine.execAslSBbc b c s
  | .lsr_s_bbc b c => Sys2Proof.Machine.execLsrSBbc b c s
  | .asr_s_bbc b c => Sys2Proof.Machine.execAsrSBbc b c s
  | .asl_s_bc b c => Sys2Proof.Machine.execAslSBc b c s
  | .asr_s_bc b c => Sys2Proof.Machine.execAsrSBc b c s
  | .lsr_s_bc b c => Sys2Proof.Machine.execLsrSBc b c s
  | .brk_s => Sys2Proof.Machine.execBrkS s
  | .j_s_b b => Sys2Proof.Machine.execJSB b s
  | .j_s_d_b b => Sys2Proof.Machine.execJSDB b s
  | .jl_s_b b => Sys2Proof.Machine.execJlSB b s
  | .jl_s_d_b b => Sys2Proof.Machine.execJlSDB b s
  | .sub_s_ne b => Sys2Proof.Machine.execSubSNe b s
  | .nop_s => Sys2Proof.Machine.execNopS s
  | .jeq_s_blink => Sys2Proof.Machine.execJeqSBlink s
  | .jne_s_blink => Sys2Proof.Machine.execJneSBlink s
  | .j_s_blink => Sys2Proof.Machine.execJSBlink s
  | .j_s_d_blink => Sys2Proof.Machine.execJSDBlink s
  | .ld_s_cbu7 c b u => Sys2Proof.Machine.execLdSCbu7 c b u s
  | .ldb_s_cbu5 c b u => Sys2Proof.Machine.execLdbSCbu5 c b u s
  | .ldw_s_cbu6 c b u => Sys2Proof.Machine.execLdwSCbu6 c b u s
  | .ldw_s_x_cbu6 c b u => Sys2Proof.Machine.execLdwSXCbu6 c b u s
  | .st_s_cbu7 c b u => Sys2Proof.Machine.execStSCbu7 c b u s
  | .stb_s_cbu5 c b u => Sys2Proof.Machine.execStbSCbu5 c b u s
  | .stw_s_cbu6 c b u => Sys2Proof.Machine.execStwSCbu6 c b u s
  | .asl_s_bbu5 b u => Sys2Proof.Machine.execAslSBbu5 b u s
  | .lsr_s_bbu5 b u => Sys2Proof.Machine.execLsrSBbu5 b u s
  | .asr_s_bbu5 b u => Sys2Proof.Machine.execAsrSBbu5 b u s
  | .sub_s_bbu5 b u => Sys2Proof.Machine.execSubSBbu5 b u s
  | .bset_s_bbu5 b u => Sys2Proof.Machine.execBsetSBbu5 b u s
  | .bclr_s_bbu5 b u => Sys2Proof.Machine.execBclrSBbu5 b u s
  | .bmsk_s_bbu5 b u => Sys2Proof.Machine.execBmskSBbu5 b u s
  | .btst_s_bu5 b u => Sys2Proof.Machine.execBtstSBu5 b u s
  | .ld_s_bspu7 b u => Sys2Proof.Machine.execLdSBspu7 b u s
  | .ldb_s_bspu7 b u => Sys2Proof.Machine.execLdbSBspu7 b u s
  | .st_s_bspu7 b u => Sys2Proof.Machine.execStSBspu7 b u s
  | .stb_s_bspu7 b u => Sys2Proof.Machine.execStbSBspu7 b u s
  | .add_s_bspu7 b u => Sys2Proof.Machine.execAddSBspu7 b u s
  | .add_s_spspu7 u => Sys2Proof.Machine.execAddSSpspu7 u s
  | .sub_s_spspu7 u => Sys2Proof.Machine.execSubSSpspu7 u s
  | .pop_s_b b => Sys2Proof.Machine.execPopSB b s
  | .pop_s_blink => Sys2Proof.Machine.execPopSBlink s
  | .push_s_b b => Sys2Proof.Machine.execPushSB b s
  | .push_s_blink => Sys2Proof.Machine.execPushSBlink s
  | .ld_s_r0gp disp => Sys2Proof.Machine.execLdSR0gp disp s
  | .ldb_s_r0gp disp => Sys2Proof.Machine.execLdbSR0gp disp s
  | .ldw_s_r0gp disp => Sys2Proof.Machine.execLdwSR0gp disp s
  | .add_s_r0gp disp => Sys2Proof.Machine.execAddSR0gp disp s
  | .ld_s_bpclu10 b u => Sys2Proof.Machine.execLdSBpclu10 b u s
  | .mov_s_bu8 b u => Sys2Proof.Machine.execMovSBu8 b u s
  | .add_s_bbu7 b u => Sys2Proof.Machine.execAddSBbu7 b u s
  | .cmp_s_bu7 b u => Sys2Proof.Machine.execCmpSBu7 b u s
  | .breq_s b disp => Sys2Proof.Machine.execBreqS b disp s
  | .brne_s b disp => Sys2Proof.Machine.execBrneS b disp s
  | .b_s disp => Sys2Proof.Machine.execBS disp s
  | .beq_s disp => Sys2Proof.Machine.execBeqS disp s
  | .bne_s disp => Sys2Proof.Machine.execBneS disp s
  | .bgt_s disp => Sys2Proof.Machine.execBgtS disp s
  | .bge_s disp => Sys2Proof.Machine.execBgeS disp s
  | .blt_s disp => Sys2Proof.Machine.execBltS disp s
  | .ble_s disp => Sys2Proof.Machine.execBleS disp s
  | .bhi_s disp => Sys2Proof.Machine.execBhiS disp s
  | .bhs_s disp => Sys2Proof.Machine.execBhsS disp s
  | .blo_s disp => Sys2Proof.Machine.execBloS disp s
  | .bls_s disp => Sys2Proof.Machine.execBlsS disp s
  | .bl_s disp => Sys2Proof.Machine.execBlS disp s

end Sys2Proof.Machine
end

