-- ==== Sys2Proof/Machine/Fetch.lean ====
section
/-! DEFINITION. What happens at an instruction boundary before an instruction executes (60_exceptions.md R560): fetching and
decoding it (20_memory.md R97 to R99, 30_encoding.md R201), and the interrupts (R585, R590). -/

namespace Sys2Proof.Machine

/-- The optional component an instruction needs (46_extensions.md R530, R531, D29). -/
def needs : Shape → Option Opt
  | .alu op _ => aluNeeds op
  | .sop op _ => sopNeeds op
  | .mul .. => some .mul64
  | .mul16 .. => some .mul64
  | .data16 form =>
    match form with
    | .cbu3 op .. =>
      match op with
      | .asl | .asr => some .barrel
      | .add | .sub => none
    | .bbc op .. =>
      match op with
      | .asl | .lsr | .asr => some .barrel
      | .sub | .and | .or | .bic | .xor | .add1 | .add2 | .add3 => none
    | .bbu5 op .. =>
      match op with
      | .asl | .lsr | .asr => some .barrel
      | .sub | .bset | .bclr | .bmsk => none
    | .addAbc .. | .addBbh .. | .movBh .. | .cmpBh .. | .movHb .. | .tst .. | .bc .. | .btst .. | .addSp .. | .adjSp ..
    | .addGp _ | .movU8 .. | .addU7 .. | .cmpU7 .. | .subNe _ => none
  | .test .. | .mov _ | .nop | .jump .. | .jumpD .. | .jumpF _ | .lp _ | .flag _ | .lr _ | .sr _ | .sleep | .swi | .load ..
  | .store .. | .bcc .. | .bfar .. | .blcc .. | .bl .. | .br .. | .load16 _ | .store16 _ | .ctl16 _ | .nop16 | .brk => none

/-- Whether the implementation has what an instruction needs. -/
def present (cfg : Config) (i : Instr) : Bool := !((needs i.shape).any fun o => !Config.has cfg o)

/-- `Fetch32` (R98): two half-words, the upper one first. -/
def State.fetch32 (s : State) (a : Word) : Option Word :=
  match s.fetch16 a, s.fetch16 (a + 2) with
  | some h0, some h1 => some (h0 ++ h1)
  | _, _ => none

/-- The second half-word of the instruction at the pc: fetched only for a 32-bit instruction (D3). -/
def State.fetchSecond (s : State) (h0 : Half) : Option Half :=
  bif isWide h0 then s.fetch16 (s.pc + 2) else some 0#16

/-- Fetch and decode the instruction at the pc; `none` when a half-word of it is not valid memory. The long immediate is
fetched when the instruction has one and the implementation has the instruction: of an absent one only the base length is
known (D17). DESIGN CHOICE (log 54): the long immediate of a forbidden combination of fields (30_encoding.md R200 (c)) is not
fetched, so its refusal comes before a Memory Error that R579 might give it. -/
def State.fetchInstr (s : State) : Option Decoded :=
  match s.fetch16 s.pc with
  | none => none
  | some h0 =>
    match s.fetchSecond h0 with
    | none => none
    | some h1 =>
      match decodeHalves h0 h1 0#32 with
      | .ok i =>
        bif i.hasLimm && present s.cfg i then
          match s.fetch32 (s.pc + BitVec.ofNat 32 i.base) with
          | some limm => some (decodeHalves h0 h1 limm)
          | none => none
        else some (.ok i)
      | d => some d

/-- The base length of the encoding at the pc, by its major opcode (D17). -/
def State.baseAtPc (s : State) : Word :=
  match s.fetch16 s.pc with
  | some h0 => bif isWide h0 then 4#32 else 2#32
  | none => 2#32

/-- Whether an interrupt line requests and its level is enabled (R585). -/
def State.lineTakeable (s : State) (line : IrqLine) : Bool :=
  s.pending.contains line.vector &&
    match line.level with
    | .one => s.e1
    | .two => s.e2

/-- The interrupt taken among the takeable ones (R585): level 2 before level 1, and within a level by the order of
`cfg.irqLines` (log 42). -/
def State.takeable (s : State) : Option IrqLine :=
  match s.cfg.irqLines.find? fun x => x.level == .two && s.lineTakeable x with
  | some x => some x
  | none => s.cfg.irqLines.find? fun x => x.level == .one && s.lineTakeable x

/-- When interrupts are held off (R590): after a `.D` form, after a FLAG, and before a BRK_S (log 13). -/
def State.heldOff (s : State) : Bool := s.prevDslot || s.prevFlag || s.fetch16 s.pc == some 0x7FFF#16

/-- The interrupt to enter at this boundary, if any (R560). -/
def State.interrupt (s : State) : Option IrqLine := bif s.heldOff then none else s.takeable

/-- `EnterInterrupt` (R576): a sleeping core wakes; refused within the shadow of a halting FLAG (R656). -/
def State.enterInterrupt (s : State) (line : IrqLine) : Result :=
  bif s.haltShadow != 0 then .refused .haltShadow
  else .next ({ s with zz := false }.enter line.level line.vector s.pc)

/-- A reserved encoding at the pc (R578): Instruction Error with the base length; refused within the shadow of a halting
FLAG, where only NOPs may stand (R656). -/
def State.reservedAtPc (s : State) : Result :=
  bif s.haltShadow != 0 then .refused .haltShadow
  else .next (s.instructionError (s.pc + s.baseAtPc))

/-- Write half-words into memory from an address, as instruction data (R97). -/
def State.placeHalves (s : State) (a : Word) : List Half → State
  | [] => s
  | h :: rest =>
    State.placeHalves ((s.writeByte a (h.extractLsb' 0 8)).writeByte (a + 1) (h.extractLsb' 8 8)) (a + 2) rest

end Sys2Proof.Machine
end

