-- ==== Sys2Proof/Machine/Step.lean ====
section
/-! DEFINITION. One step of the core (60_exceptions.md R560). -/

namespace Sys2Proof.Machine

/-- Fetch, decode and execute the instruction at the pc. -/
def State.execAtPc (s : State) : Result :=
  match s.fetchInstr with
  | none => .next (s.memoryError s.pc)
  | some (.ok i) => exec i s
  | some .reserved => s.reservedAtPc
  | some (.undefinedForm u) => .refused (.undefinedEncoding u)
  | some .truncated => .next (s.memoryError s.pc)

/-- `CoreStep` (R560): a halted core stays as it is; else a takeable interrupt is entered; else a sleeping core stays as it
is; else the instruction at the pc is executed (log 12). -/
def step (s : State) : Host.Outcome State Fault Refusal :=
  bif s.h then .next s
  else
    match s.interrupt with
    | some line => s.enterInterrupt line
    | none => bif s.zz then .next s else s.execAtPc

/-- The state with an instruction of the opcode table placed at the pc, long immediate 0 (log 36). -/
def State.withFetchWord (s : State) (nbits w : Nat) : State := s.placeHalves s.pc (tableHalves nbits w)

end Sys2Proof.Machine
end

