-- ==== Sys2Proof/Machine/HostPort.lean ====
section
/-! DEFINITION. What the outside world can do to the machine between steps: interrupt requests (60_exceptions.md R585), the
host (R610 to R618) and the reset signal (70_reset_and_hazards.md R630). `step` calls nothing of this file (log 29). An action
the host's contract does not offer in the present state answers `none`. -/

namespace Sys2Proof.Machine

/-! ### Interrupt requests -/

/-- The environment asserts an interrupt line. -/
def State.setPending (s : State) (i : Nat) : State :=
  bif s.pending.contains i then s else { s with pending := i :: s.pending }

/-- The environment withdraws a request. -/
def State.clearPending (s : State) (i : Nat) : State := { s with pending := s.pending.filter (· != i) }

/-! ### STATUS32, PC, DEBUG -/

/-- What clearing H clears with it (R612). -/
def State.clearHalt (s : State) : State := { s with h := false, sh := false, bh := false, zz := false }

/-- The host's write of STATUS32 (R612): only H changes while the core runs. -/
def State.hostWriteStatus32 (s : State) (v : Word) : State :=
  bif s.h then
    (bif bitAt v 0 then s.setStatus v else (s.setStatus v).clearHalt)
  else { s with h := bitAt v 0 }

/-- The host's write of PC (R613): only when the core is halted. -/
def State.hostWritePc (s : State) (v : Word) : Option State :=
  bif s.h then
    some { s with
      pc := clearBit0 v
      delayTarget := none
      prevDslot := false
      prevCmpBranch := false
      prevFlag := false
      prevSrStatusL := false
      haltShadow := 0 }
  else none

/-- The end of a single step: the core is halted again. -/
def haltAgain (r : Result) : Result :=
  match r with
  | .next s => .next { s with h := true, singleStep := false }
  | .fault f => .fault f
  | .refused f => .refused f

/-- The single instruction step (R616): the instruction at the pc, with its delay-slot instruction when it leaves a pending
target (D33); no interrupt is taken (D32). -/
def State.hostSingleStep (s : State) : Result :=
  match ({ s.clearHalt with singleStep := true } : State).execAtPc with
  | .next t => bif t.delayTarget.isSome then haltAgain t.execAtPc else haltAgain (.next t)
  | .fault f => .fault f
  | .refused f => .refused f

/-- The host's write of DEBUG (R611, R616): FH halts; SS steps a halted core, by an instruction with IS, else by a cycle,
which performs an instruction step or nothing as the environment chooses (D31). -/
def State.hostWriteDebug (s : State) (v : Word) (cycleSteps : Bool) : Result :=
  bif s.h && bitAt v 0 && (bitAt v 11 || cycleSteps) then s.hostSingleStep
  else .next { s with h := s.h || bitAt v 1 }

/-! ### The other registers, memory and the semaphore -/

/-- The host's claim and release of semaphore bits (10_state.md R43, R618). -/
def State.hostWriteSemaphore (s : State) (v : Word) : State :=
  { s with semHost := v &&& ~~~s.semCpu &&& semMask s.cfg }

/-- The host's read of the semaphore register: the bits the host owns, the reserved ones free. -/
def State.hostReadSemaphore (s : State) (f : Word) : Word := freeUnder (~~~(semMask s.cfg)) s.semHost f

/-- The host's read of a core register: only when the core is halted (R614). -/
def State.hostReadCore (s : State) (r : Reg) : Option Word :=
  bif !s.h || decide (61 ≤ r.toNat) then none
  else bif r == 60#6 then some s.lpCount
  else match s.readCore ⟨false, false⟩ 0 r 0#32 with
    | .ok v => some v
    | .error _ => none

/-- The host's write of a core register: only when the core is halted (R614); a write of LP_COUNT meets no distance rule
(70_reset_and_hazards.md R652). -/
def State.hostWriteCore (s : State) (r : Reg) (v : Word) : Option State :=
  bif !s.h || decide (61 ≤ r.toNat) then none
  else bif r == 60#6 then some { s with lpCount := v, lpcAge := 4 }
  else some (s.writeCore r v)

/-- The host's read of an auxiliary register (R614), with the free value of its reserved bits: while the core runs only
STATUS32, PC, SEMAPHORE, IDENTITY and DEBUG. -/
def State.hostReadAux (s : State) (a f : Word) : Option Word :=
  bif a == 0x1#32 then some (s.hostReadSemaphore f)
  else bif s.h || a == 0xA#32 || a == 0x6#32 || a == 0x4#32 || a == 0x5#32 then some (s.auxReadWith a f)
  else none

/-- The host's write of an auxiliary register other than DEBUG (R614): while the core runs only STATUS32 and SEMAPHORE. -/
def State.hostWriteAux (s : State) (a v : Word) : Option State :=
  bif a == 0x1#32 then some (s.hostWriteSemaphore v)
  else bif a == 0xA#32 then some (s.hostWriteStatus32 v)
  else bif !s.h then none
  else bif a == 0x6#32 then s.hostWritePc v
  else bif a == 0x2#32 || a == 0x3#32 then some { s.auxWrite a v with lpseAge := 3 }
  else some (s.auxWrite a v)

/-- The host's read of memory (R618, 20_memory.md R118): an aligned access at any time (D4). `MEM_VALID` has no kind for the
host: an address outside valid memory is read as if it were backed, DESIGN CHOICE (log 50). -/
def State.hostReadMem (s : State) (sz : Size) (a : Word) : Option Word :=
  bif isAligned sz a then some (s.readData sz a) else none

/-- The host's write of memory (R618, 20_memory.md R118): also of an address outside valid memory, DESIGN CHOICE (log 50). -/
def State.hostWriteMem (s : State) (sz : Size) (a v : Word) : Option State :=
  bif isAligned sz a then some (s.writeData sz a v) else none

/-! ### Reset -/

/-- The hard reset (70_reset_and_hazards.md R630) of a running system: memory, the parameters and the request inputs stay;
what reset leaves unspecified takes free values, a draw made once. -/
def State.hardReset (s : State) : State :=
  { State.resetWith s.cfg with
    regs := Vector.ofFn fun i => Config.freeWord s.draw (100 + i.val)
    mulres := Config.freeWord s.draw 98 ++ Config.freeWord s.draw 99
    auxExt := (List.range s.cfg.extAux.length).map fun i => Config.freeWord s.draw (200 + i)
    statusL1 := Config.freeWord s.draw 96 &&& statusLMask
    statusL2 := Config.freeWord s.draw 97 &&& statusLMask
    pending := s.pending
    mem := s.mem
    draw := s.draw + 1 }

end Sys2Proof.Machine
end

