-- ==== Sys2Proof/Safety.lean ====
section
/-! DEFINITION. What a legal state is, when an instruction meets no hazard, what an instruction reads and what it may write:
the terms of the statements. -/

namespace Sys2Proof.Machine

/-! ### Legal states -/

/-- The stored bits of the semaphore register that a side may own. -/
abbrev semFits (cfg : Config) (v : Word) : Prop := v &&& ~~~(semMask cfg) = 0#32

/-- A legal state of the machine: the memory is in its canonical form; instruction addresses are even (10_state.md R32, R44,
R45); the vector base is 1 KB aligned (R51); the status save registers hold no bit outside their layout (R49); no semaphore
bit has two owners (R43); the hidden counters stay in their ranges and a pending target follows a `.D` form (R62); the
parameters are as the manual asks (00_scope.md R7), with one register for each extension auxiliary number. -/
structure State.Inv (s : State) : Prop where
  mem : s.mem.wf = true
  pc : bitAt s.pc 0 = false
  lpStart : bitAt s.lpStart 0 = false
  lpEnd : bitAt s.lpEnd 0 = false
  target : ∀ t, s.delayTarget = some t → bitAt t 0 = false ∧ s.prevDslot = true
  vectorBase : s.intVectorBase &&& 0x3FF#32 = 0#32
  statusL1 : s.statusL1 &&& ~~~statusLMask = 0#32
  statusL2 : s.statusL2 &&& ~~~statusLMask = 0#32
  owners : s.semCpu &&& s.semHost = 0#32
  semCpu : semFits s.cfg s.semCpu
  semHost : semFits s.cfg s.semHost
  haltShadow : s.haltShadow ≤ 3
  lpcAge : s.lpcAge ≤ 4
  lpseAge : s.lpseAge ≤ 3
  cfg : s.cfg.wf = true
  auxExt : s.auxExt.length = s.cfg.extAux.length

/-! ### An instruction that meets no hazard -/

/-- Nothing before the instruction stops it: no halt shadow (70_reset_and_hazards.md R656), no long immediate in a delay slot
(43_branch_jump_loop.md R373), the optional component it needs is present (46_extensions.md R530). -/
structure State.NoHazard (s : State) (l : Len) (opt : Option Opt) : Prop where
  shadow : s.haltShadow = 0
  slot : s.prevDslot = true → l.limm = false
  option : ∀ o, opt = some o → s.cfg.has o = true

/-- The loop registers were set up early enough, if the instruction is the last of a loop (70_reset_and_hazards.md R652,
R653). `count` and `bounds` say whether the instruction itself writes LP_COUNT, or LP_START or LP_END. -/
structure State.LoopReady (s : State) (l : Len) (count bounds : Bool) : Prop where
  count : s.npc l = s.lpEnd → count = false ∧ 4 ≤ s.lpcAge + l.words
  bounds : s.npc l = s.lpEnd → bounds = false ∧ 3 ≤ s.lpseAge + l.words

end Sys2Proof.Machine

namespace Sys2Proof

open Machine

/-! ### What an instruction reads -/

/-- The operands of a 16-bit data instruction. -/
def Data16.args : Data16 → DataArgs
  | .addAbc a b c => args16 (reg16 a) (some (op16 b)) (op16 c)
  | .cbu3 _ c b u => args16 (reg16 c) (some (op16 b)) (.imm (uimm u 0))
  | .addBbh b h limm => args16h (reg16 b) (some (op16 b)) h limm
  | .movBh b h limm => args16h (reg16 b) none h limm
  | .cmpBh b h limm => args16f (op16 b) (.reg h limm) (isLimm h)
  | .movHb h b => args16 h none (op16 b)
  | .bbc _ b c => args16 (reg16 b) (some (op16 b)) (op16 c)
  | .tst b c => args16f (op16 b) (op16 c) false
  | .bc .neg b c => args16 (reg16 b) (some (.imm 0#32)) (op16 c)
  | .bc _ b c => args16 (reg16 b) none (op16 c)
  | .bbu5 _ b u => args16 (reg16 b) (some (op16 b)) (.imm (uimm u 0))
  | .btst b u => args16f (op16 b) (.imm (uimm u 0)) false
  | .addSp b u => args16 (reg16 b) (some (.reg rSP 0#32)) (.imm (uimm u 2))
  | .adjSp _ u => args16 rSP (some (.reg rSP 0#32)) (.imm (uimm u 2))
  | .addGp s => args16 0#6 (some (.reg rGP 0#32)) (.imm (simm s 2))
  | .movU8 b u => args16 (reg16 b) none (.imm (uimm u 0))
  | .addU7 b u => args16 (reg16 b) (some (op16 b)) (.imm (uimm u 0))
  | .cmpU7 b u => args16f (op16 b) (.imm (uimm u 0)) false
  | .subNe b => { args16 (reg16 b) none (.imm 0#32) with cond := some 2#5 }

/-- The operands of a 16-bit load. -/
def Ld16.args : Ld16 → MemArgs
  | .abc sz _ b c => mem16 sz (op16 b) (op16 c)
  | .cbu sz _ b u => mem16 sz (op16 b) (.imm (uimm u (sizeShift sz)))
  | .cbuX _ b u => mem16 .half (op16 b) (.imm (uimm u 1))
  | .sp byte _ u => mem16 (bif byte then .byte else .long) (.reg rSP 0#32) (.imm (uimm u 2))
  | .gp sz s => mem16 sz (.reg rGP 0#32) (.imm (simm s (sizeShift sz)))
  | .pcl _ u => mem16 .long (.reg 63#6 0#32) (.imm (uimm u 2))
  | .pop _ => popArgs
  | .popBlink => popArgs

/-- The data of a 16-bit store. -/
def St16.data : St16 → Operand
  | .cbu _ c _ _ => op16 c
  | .sp _ b _ => op16 b
  | .push b => op16 b
  | .pushBlink => .reg rBLINK 0#32

/-- The operands of a 16-bit store. -/
def St16.args : St16 → MemArgs
  | .cbu sz _ b u => mem16 sz (op16 b) (.imm (uimm u (sizeShift sz)))
  | .sp byte _ u => mem16 (bif byte then .byte else .long) (.reg rSP 0#32) (.imm (uimm u 2))
  | .push _ => pushArgs
  | .pushBlink => pushArgs

/-- The condition code of B_S, BEQ_S, BNE_S. -/
def CcB.condCode : CcB → Option (BitVec 5)
  | .al => none
  | .eq => some 1#5
  | .ne => some 2#5

/-- The condition code of a Bcc_S. -/
def Cc8.condCode : Cc8 → BitVec 5
  | .gt => 0x9#5
  | .ge => 0xA#5
  | .lt => 0xB#5
  | .le => 0xC#5
  | .hi => 0xD#5
  | .hs => 0x6#5
  | .lo => 0x5#5
  | .ls => 0xE#5

/-- The 16-bit branches and jumps as branches. -/
def Ctl16.args : Ctl16 → BranchArgs
  | .j link d r => j16Args .always (op16 r) link d
  | .jBlink d => j16Args .always (.reg rBLINK 0#32) false d
  | .jCond ne => j16Args (.cond (bif ne then 2#5 else 1#5)) (.reg rBLINK 0#32) false false
  | .br ne r s => br16Args ne r s
  | .b cond s => relArgs cond.condCode (simm s 1) false false len16
  | .bcc cond s => relArgs (some cond.condCode) (simm s 1) false false len16
  | .bl s => relArgs none (simm s 2) true false len16

/-- The branches and jumps as branches; `J.F` and LP are not among them. -/
def Shape.branchArgs : Shape → Option BranchArgs
  | .jump link form => some (jumpArgs link (jArgs form))
  | .jumpD link form => some (jumpDArgs link (jdArgs form))
  | .bcc d n q => some (relArgs (some q) (simm d 1) false n ⟨false, false⟩)
  | .bfar d n => some (relArgs none (simm d 1) false n ⟨false, false⟩)
  | .blcc d n q => some (relArgs (some q) (simm d 2) true n ⟨false, false⟩)
  | .bl d n => some (relArgs none (simm d 2) true n ⟨false, false⟩)
  | .br op form => some (brArgs op form)
  | .ctl16 form => some form.args
  | .alu .. | .test .. | .mul .. | .mov _ | .nop | .sop .. | .jumpF _ | .lp _ | .flag _ | .lr _ | .sr _ | .sleep | .swi
  | .load .. | .store .. | .load16 _ | .store16 _ | .data16 _ | .mul16 .. | .nop16 | .brk => none

/-- The operands an instruction reads when its condition is true. -/
def Shape.sources : Shape → List Operand
  | .alu _ form => (genArgs form).sources
  | .test _ form => (cmpArgs form).sources
  | .mul _ form => (cmpArgs form).sources
  | .mov form => (movArgs form).sources
  | .sop _ form => (sopArgs form).sources
  | .flag form => (jArgs form).sources
  | .lr form => (lrArgs form).sources
  | .sr form => (srArgs form).sources
  | .load kind form => [(ldArgs (ldSize kind) form).base, (ldArgs (ldSize kind) form).offset]
  | .store sz c b d aa _ limm => [(stArgs sz c b d aa limm).base, .reg c limm, (stArgs sz c b d aa limm).offset]
  | .load16 form => [form.args.base, form.args.offset]
  | .store16 form => [form.args.base, form.data, form.args.offset]
  | .data16 form => form.args.sources
  | .mul16 b c => [op16 b, op16 c]
  | .jump _ form => [(jArgs form).src2]
  | .jumpD _ form => [(jdArgs form).src2]
  | .br op form => (brArgs op form).test.operands
  | .ctl16 form => form.args.test.operands ++ form.args.target.operands
  | .nop | .jumpF _ | .lp _ | .sleep | .swi | .bcc .. | .bfar .. | .blcc .. | .bl .. | .nop16 | .brk => []

/-- The condition of a test on the flags. -/
def Machine.BranchTest.condCode : BranchTest → Option (BitVec 5)
  | .always => none
  | .cond q => some q
  | .cmp .. => none

/-- The condition of an instruction on the flags, if it has one (30_encoding.md R138). -/
def Shape.cond : Shape → Option (BitVec 5)
  | .alu _ form => (genArgs form).cond
  | .test _ form => (cmpArgs form).cond
  | .mul _ form => (cmpArgs form).cond
  | .mov form => (movArgs form).cond
  | .jump _ form => (jArgs form).cond
  | .jumpD _ form => (jdArgs form).cond
  | .jumpF form => jfCond form
  | .lp form => lpCond form
  | .flag form => (jArgs form).cond
  | .bcc _ _ q => some q
  | .blcc _ _ q => some q
  | .data16 form => form.args.cond
  | .ctl16 form => form.args.test.condCode
  | .nop | .sop .. | .lr _ | .sr _ | .sleep | .swi | .load .. | .store .. | .bfar .. | .bl .. | .br .. | .load16 _ | .store16 _
  | .mul16 .. | .nop16 | .brk => none

/-! ### What an instruction may write -/

/-- The core registers in a list of optional fields. -/
def regList (fields : List (Option Reg)) : List Nat := (fields.filterMap id).map (·.toNat)

/-- The base register of an access with address write-back (44_load_store.md R444). -/
def writtenBase (b : Reg) (aa : BitVec 2) : Option Reg := bif aa == 1#2 || aa == 2#2 then some b else none

/-- The destination and the written base of a 32-bit load. -/
def LdForm.dests : LdForm → List (Option Reg)
  | .rr a b _ aa _ _ => [some a, writtenBase b aa]
  | .s9 a b _ aa _ _ => [some a, writtenBase b aa]

/-- The destinations of a 16-bit load: its register, and SP for a pop (44_load_store.md R450 to R455). -/
def Ld16.dests : Ld16 → List (Option Reg)
  | .abc _ a _ _ => [some (reg16 a)]
  | .cbu _ r _ _ => [some (reg16 r)]
  | .cbuX r _ _ => [some (reg16 r)]
  | .sp _ b _ => [some (reg16 b)]
  | .gp _ _ => [some 0#6]
  | .pcl b _ => [some (reg16 b)]
  | .pop b => [some (reg16 b), some rSP]
  | .popBlink => [some rBLINK, some rSP]

/-- The destination of a 16-bit data instruction. -/
def Data16.dests : Data16 → List (Option Reg)
  | .addAbc a _ _ => [some (reg16 a)]
  | .cbu3 _ r _ _ => [some (reg16 r)]
  | .addBbh b _ _ => [some (reg16 b)]
  | .movBh b _ _ => [some (reg16 b)]
  | .cmpBh _ _ _ => []
  | .movHb h _ => [some h]
  | .bbc _ b _ => [some (reg16 b)]
  | .tst _ _ => []
  | .bc _ b _ => [some (reg16 b)]
  | .bbu5 _ b _ => [some (reg16 b)]
  | .btst _ _ => []
  | .addSp b _ => [some (reg16 b)]
  | .adjSp _ _ => [some rSP]
  | .addGp _ => [some 0#6]
  | .movU8 b _ => [some (reg16 b)]
  | .addU7 b _ => [some (reg16 b)]
  | .cmpU7 _ _ => []
  | .subNe b => [some (reg16 b)]

/-- The destination of a format with one. -/
def GenForm.dest : GenForm → Reg
  | .abc _ a _ _ _ => a
  | .abu6 _ a _ _ _ => a
  | .bbs12 _ b _ _ => b
  | .ccbbc _ b _ _ _ => b
  | .ccbbu6 _ b _ _ _ => b

/-- The destination of MOV. -/
def MovForm.dest : MovForm → Reg
  | .bc _ b _ _ => b
  | .bu6 _ b _ => b
  | .bs12 _ b _ => b
  | .ccbc _ b _ _ _ => b
  | .ccbu6 _ b _ _ => b

/-- The destination of a single-operand instruction. -/
def SopForm.dest : SopForm → Reg
  | .bc _ b _ _ => b
  | .bu6 _ b _ => b

/-- The destination of LR. -/
def LrForm.dest : LrForm → Reg
  | .bc b _ _ => b
  | .bs12 b _ => b

/-- BLINK, for a linking form. -/
def linkDest (link : Bool) : List (Option Reg) := bif link then [some rBLINK] else []

/-- The core registers an instruction names as destinations, or updates by its addressing or by linking. -/
def Shape.dests : Shape → List (Option Reg)
  | .alu _ form => [some form.dest]
  | .mov form => [some form.dest]
  | .sop _ form => [some form.dest]
  | .lr form => [some form.dest]
  | .jump link _ => linkDest link
  | .jumpD link _ => linkDest link
  | .load _ form => form.dests
  | .store _ _ b _ aa _ _ => [writtenBase b aa]
  | .blcc .. => linkDest true
  | .bl .. => linkDest true
  | .load16 form => form.dests
  | .store16 form =>
    match form with
    | .push _ => [some rSP]
    | .pushBlink => [some rSP]
    | .cbu .. => []
    | .sp .. => []
  | .data16 form => form.dests
  | .ctl16 form =>
    match form with
    | .j link _ _ => linkDest link
    | .bl _ => linkDest true
    | .jBlink _ => []
    | .jCond _ => []
    | .br .. => []
    | .b .. => []
    | .bcc .. => []
  | .test .. | .mul .. | .nop | .jumpF _ | .lp _ | .flag _ | .sr _ | .sleep | .swi | .bcc .. | .bfar .. | .br ..
  | .mul16 .. | .nop16 | .brk => []

/-- The registers r0 to r59 (by number) an instruction may write. -/
def Shape.destRegs (v : Shape) : List Nat := regList v.dests

/-- The F bit of a format that has one. -/
def GenForm.setsFlags : GenForm → Bool
  | .abc f _ _ _ _ => f
  | .abu6 f _ _ _ _ => f
  | .bbs12 f _ _ _ => f
  | .ccbbc f _ _ _ _ => f
  | .ccbbu6 f _ _ _ _ => f

/-- The F bit of MOV. -/
def MovForm.setsFlags : MovForm → Bool
  | .bc f _ _ _ => f
  | .bu6 f _ _ => f
  | .bs12 f _ _ => f
  | .ccbc f _ _ _ _ => f
  | .ccbu6 f _ _ _ => f

/-- The F bit of a single-operand instruction. -/
def SopForm.setsFlags : SopForm → Bool
  | .bc f _ _ _ => f
  | .bu6 f _ _ => f

/-- The instructions that may change Z, N, C or V (10_state.md R35): F = 1, the compares and tests, FLAG and J.F. -/
def Shape.setsFlags : Shape → Bool
  | .alu _ form => form.setsFlags
  | .mov form => form.setsFlags
  | .sop _ form => form.setsFlags
  | .test .. => true
  | .jumpF _ => true
  | .flag _ => true
  | .data16 form =>
    match form with
    | .cmpBh .. | .tst .. | .btst .. | .cmpU7 .. => true
    | .addAbc .. | .cbu3 .. | .addBbh .. | .movBh .. | .movHb .. | .bbc .. | .bc .. | .bbu5 .. | .addSp .. | .adjSp ..
    | .addGp _ | .movU8 .. | .addU7 .. | .subNe _ => false
  | .mul .. | .nop | .jump .. | .jumpD .. | .lp _ | .lr _ | .sr _ | .sleep | .swi | .load .. | .store .. | .bcc .. | .bfar ..
  | .blcc .. | .bl .. | .br .. | .load16 _ | .store16 _ | .mul16 .. | .ctl16 _ | .nop16 | .brk => false

/-- The instructions that store to memory (44_load_store.md R460 to R463). -/
def Shape.stores : Shape → Bool
  | .store .. => true
  | .store16 _ => true
  | .alu .. | .test .. | .mul .. | .mov _ | .nop | .sop .. | .jump .. | .jumpD .. | .jumpF _ | .lp _ | .flag _ | .lr _ | .sr _
  | .sleep | .swi | .load .. | .bcc .. | .bfar .. | .blcc .. | .bl .. | .br .. | .load16 _ | .data16 _ | .mul16 .. | .ctl16 _
  | .nop16 | .brk => false

end Sys2Proof

namespace Sys2Proof.Machine

/-- The bytes a store of a size at an address writes. -/
def inAccess (a : Word) (sz : Size) (x : Word) : Prop := ∃ k, k < sizeBytes sz ∧ x = a + BitVec.ofNat 32 k

/-! ### Safe runs -/

/-- A run of `n` steps that meets no refusal, and its end. -/
def runSteps : Nat → State → Result
  | 0, s => .next s
  | n + 1, s =>
    match step s with
    | .next t => runSteps n t
    | .fault f => .fault f
    | .refused r => .refused r

/-- A safe run: it ends in a legal state. -/
def SafeRun (n : Nat) (s : State) : Prop := ∃ t, runSteps n s = .next t ∧ t.Inv

end Sys2Proof.Machine
end

