-- ==== Sys2Proof/Certificates/Slice0/Obligations.lean ====
section
/-! DEFINITION. The statements for the provers. `log n` is notes/assumptions/n.md. -/

open Sys2Proof Sys2Proof.Machine

/-! ### Encoding -/

/-- Decoding the encoding of a well-formed instruction gives that instruction: no bit of an operand is dropped (30_encoding.md
R130 to R187). The model's own choices in it: log 22. -/
def Obligations.DecodeOfEncode : Prop :=
  ∀ i : Instr, i.wf = true → decodeList (encode i) = .ok i ∧ decodeBytes (encodeBytes i) = .ok i

/-- Whatever half-words the decoder accepts, it reads a well-formed instruction from them; and the length of a well-formed
instruction (30_encoding.md R133) is 4 bytes for major opcodes 0x00 to 0x07 and 2 for the others, and 4 more with a long
immediate. The combinations of fields that R200 (c) lists are refused by name: of a load (both formats) the sizes ZZ = 11, a
long word with X, a scaled byte and the null destination; of a store ZZ = 11 and a scaled byte; the tests with F = 0; sub-opcode
0x2F with P = 10 or 11; LP, LR and SR in formats of no page; SP adjustments with b = 2 to 7; POP_S and PUSH_S with u other than
1 and 17. The model's own choices in it: log 22. -/
def Obligations.DecoderAcceptsWellFormed : Prop :=
  (∀ (h0 h1 : Half) (limm : Word) (i : Instr), decodeHalves h0 h1 limm = .ok i → i.wf = true) ∧
  (∀ i : Instr, i.wf = true →
    ∃ h rest, encode i = h :: rest ∧
      2 * (encode i).length = (if (h.extractLsb' 11 5).toNat < 8 then 4 else 2) + (if i.hasLimm then 4 else 0) ∧
      i.length = 2 * (encode i).length) ∧
  (∀ (h0 h1 : Half) (limm : Word),
    let w : Word := h0 ++ h1
    let field := fun lo n : Nat => (w.extractLsb' lo n).toNat
    let limmBase := field 12 3 = 7 ∧ field 24 3 = 6
    let badLoad := fun zz x aa : Nat => zz = 3 ∨ (zz = 0 ∧ x = 1) ∨ (zz = 1 ∧ aa = 3 ∧ ¬ limmBase) ∨ field 0 6 = 62
    let loadOffset := field 27 5 = 2 ∧ badLoad (field 7 2) (field 6 1) (field 9 2)
    let loadIndexed := field 27 5 = 4 ∧ field 19 3 = 6 ∧ badLoad (field 17 2) (field 16 1) (field 22 2)
    let store := field 27 5 = 3 ∧ (field 1 2 = 3 ∨ (field 1 2 = 1 ∧ field 3 2 = 3 ∧ ¬ limmBase))
    let testNoFlags := field 27 5 = 4 ∧ field 16 6 ∈ [0x0B, 0x0C, 0x0D, 0x11] ∧ field 15 1 = 0
    let singleOperand := (field 27 5 = 4 ∨ field 27 5 = 5) ∧ field 16 6 = 0x2F ∧ 2 ≤ field 22 2
    let loop := field 27 5 = 4 ∧ field 16 6 = 0x28 ∧ (field 22 2 < 2 ∨ (field 22 2 = 3 ∧ field 5 1 = 0))
    let auxiliary := field 27 5 = 4 ∧ field 16 6 ∈ [0x2A, 0x2B] ∧ field 22 1 = 1
    let adjustSp := field 27 5 = 0x18 ∧ field 21 3 = 5 ∧ 2 ≤ field 24 3
    let popPush := field 27 5 = 0x18 ∧ 6 ≤ field 21 3 ∧ field 16 5 ∉ [1, 17]
    loadOffset ∨ loadIndexed ∨ store ∨ testNoFlags ∨ singleOperand ∨ loop ∨ auxiliary ∨ adjustSp ∨ popPush →
    ∃ u, decodeHalves h0 h1 limm = .undefinedForm u)

/-- Words written out from the encodings of the spec (95_test_vectors.md section 1.1, 96_derived_vectors.md section 1) decode to
the instructions they stand for. -/
def Obligations.SpecWordsDecode : Prop :=
  decodeList [0x210A#16, 0x0080#16] = .ok (.mov (.bc false 1#6 2#6 0#32)) ∧
  decodeList [0x2600#16, 0x7F81#16, 0x0000#16, 0x0010#16] = .ok (.add (.abc false 1#6 62#6 62#6 0x10#32)) ∧
  decodeList [0x2A00#16, 0x00C1#16] = .ok (.asl_multi (.abc false 1#6 2#6 3#6 0#32)) ∧
  decodeList [0x0911#16, 0x0080#16] = .ok (.breq (.bcs9 1#6 2#6 8#8 false 0#32)) ∧
  decodeList [0x2020#16, 0x8740#16] = .ok (.j_f (.c false false)) ∧
  decodeList [0x1104#16, 0x0000#16] = .ok (.ld (.s9 0#6 1#6 4#9 0#2 false 0#32)) ∧
  decodeList [0x1904#16, 0x0000#16] = .ok (.st_cbs9 0#6 1#6 4#9 0#2 false 0#32) ∧
  decodeList [0x2069#16, 0x0180#16] = .ok (.flag (.u6 6#6)) ∧
  decodeList [0x292F#16, 0x0081#16] = .ok (.norm (.bc false 1#6 2#6 0#32)) ∧
  decodeList [0xC1E1#16] = .ok (.push_s_b 1#3) ∧
  decodeList [0x7FFF#16] = .ok .brk_s

/-! ### One step -/

/-- When the bytes at the pc are those of a well-formed instruction in valid memory, the core is running and no interrupt is
entered, the step is the meaning of that instruction (60_exceptions.md R560, 20_memory.md R97 to R99). An absent optional
instruction is the subject of `AbsentOption`. The model's own choices in it: log 10. -/
def Obligations.StepRunsDecoded : Prop :=
  ∀ (i : Instr) (s : State), i.wf = true → s.h = false → s.zz = false → s.interrupt = none → present s.cfg i = true →
    (∀ (k : Nat) (b : Byte), (encodeBytes i)[k]? = some b →
      s.readByte (s.pc + BitVec.ofNat 32 k) = b ∧ memValid s.cfg .fetch (s.pc + BitVec.ofNat 32 k).toNat = true) →
    step s = exec i s

/-- A halted core executes nothing, a sleeping core nothing until an interrupt is taken (10_state.md R61, 60_exceptions.md
R560); and when no interrupt is entered although the core runs (R590, R585): after a `.D` form, after a FLAG, before a BRK_S,
with both enables clear, or with no request. Then the instruction at the pc executes. The model's own choices in it: logs 12 and
13. -/
def Obligations.StepWithoutInterrupt : Prop :=
  ((∀ s : State, s.h = true → step s = .next s) ∧
  (∀ s : State, s.zz = true → s.interrupt = none → step s = .next s)) ∧
  (∀ s : State, s.h = false → s.zz = false →
    (s.prevDslot = true ∨ s.prevFlag = true ∨ s.fetch16 s.pc = some 0x7FFF#16 ∨ (s.e1 = false ∧ s.e2 = false) ∨
      s.pending = []) →
    s.interrupt = none ∧ step s = s.execAtPc)

/-- Interrupt entry (60_exceptions.md R576): from a running or sleeping core, for the line that is taken, with nothing but the
named fields changed; within the shadow of a halting FLAG it is refused. The clause on `draw`, the model's own counter of free
values, is the choice of log 4, not a rule of the spec. The model's own choices in it: log 15. -/
def Obligations.InterruptEntry : Prop :=
  ∀ (s : State) (line : IrqLine), s.h = false → s.interrupt = some line →
    (s.haltShadow ≠ 0 → step s = .refused .haltShadow) ∧
    (s.haltShadow = 0 → line.level = .one →
      step s = .next { s with
        regs := s.regs.setIfInBounds 29 s.pc
        statusL1 := s.status32 &&& 0xF06#32
        e1 := false
        zz := false
        pc := s.intVectorBase + BitVec.ofNat 32 (8 * line.vector)
        delayTarget := none
        prevDslot := false
        prevCmpBranch := false
        prevFlag := false
        prevSrStatusL := false
        draw := s.draw + 1 }) ∧
    (s.haltShadow = 0 → line.level = .two →
      step s = .next { s with
        regs := s.regs.setIfInBounds 30 s.pc
        statusL2 := s.status32 &&& 0xF06#32
        e1 := false
        e2 := false
        zz := false
        pc := s.intVectorBase + BitVec.ofNat 32 (8 * line.vector)
        delayTarget := none
        prevDslot := false
        prevCmpBranch := false
        prevFlag := false
        prevSrStatusL := false
        draw := s.draw + 1 })

/-- Which line is taken (60_exceptions.md R585): one that requests and whose level is enabled; a level 1 line only when no level
2 line is takeable; and some line whenever one is takeable. The model's own choices in it: log 42. -/
def Obligations.InterruptChoice : Prop :=
  ∀ s : State,
    let can := fun line : IrqLine => line ∈ s.cfg.irqLines ∧ line.vector ∈ s.pending ∧
      (line.level = .one ∧ s.e1 = true ∨ line.level = .two ∧ s.e2 = true)
    (∀ line, s.takeable = some line → can line ∧ (line.level = .one → ∀ other, can other → other.level = .one)) ∧
    (∀ line, can line → ∃ taken, s.takeable = some taken)

/-- The common entry sequence (60_exceptions.md R575), for both levels, any vector and any return address; Memory Error and
Instruction Error enter at level 2, with vectors 1 and 2. The clause on `draw`, the model's own counter of free values, is the
choice of log 4, not a rule of the spec. -/
def Obligations.EntrySequence : Prop :=
  ∀ (s : State) (v : Nat) (ret : Word),
    s.enter .one v ret = { s with
      regs := s.regs.setIfInBounds 29 ret
      statusL1 := s.status32 &&& 0xF06#32
      e1 := false
      pc := s.intVectorBase + BitVec.ofNat 32 (8 * v)
      delayTarget := none
      prevDslot := false
      prevCmpBranch := false
      prevFlag := false
      prevSrStatusL := false
      draw := s.draw + 1 } ∧
    s.enter .two v ret = { s with
      regs := s.regs.setIfInBounds 30 ret
      statusL2 := s.status32 &&& 0xF06#32
      e2 := false
      e1 := false
      pc := s.intVectorBase + BitVec.ofNat 32 (8 * v)
      delayTarget := none
      prevDslot := false
      prevCmpBranch := false
      prevFlag := false
      prevSrStatusL := false
      draw := s.draw + 1 } ∧
    s.memoryError ret = s.enter .two 1 ret ∧ s.instructionError ret = s.enter .two 2 ret

/-- Memory Error of a fetch (60_exceptions.md R577, 20_memory.md R98, R104): when a half-word of the instruction at the pc, or
of its long immediate, is not valid memory, the return address is the pc, whatever the enables hold. Instruction Error of a
reserved encoding (60_exceptions.md R578): the return address is the pc and the base length (log 23), whatever the enables hold;
within the shadow of a halting FLAG it is refused (log 15). An undefined combination of fields (30_encoding.md R200 (c)) is
refused by name, whatever its long immediate (log 54). The model's own choices in it: logs 15, 22, 23, 24 and 54. -/
def Obligations.FetchExceptions : Prop :=
  (∀ s : State, s.h = false → s.zz = false → s.interrupt = none →
    ((s.validFrom .fetch s.pc 2 = false → step s = .next (s.enter .two 1 s.pc)) ∧
    (∀ h0, s.fetch16 s.pc = some h0 → (h0.extractLsb' 11 5).toNat < 8 → s.validFrom .fetch (s.pc + 2) 2 = false →
      step s = .next (s.enter .two 1 s.pc)) ∧
    (∀ h0 h1 i, s.fetch16 s.pc = some h0 → (8 ≤ (h0.extractLsb' 11 5).toNat ∨ s.fetch16 (s.pc + 2) = some h1) →
      decodeHalves h0 h1 0#32 = .ok i → i.hasLimm = true → present s.cfg i = true →
      s.validFrom .fetch (s.pc + BitVec.ofNat 32 i.base) 4 = false → step s = .next (s.enter .two 1 s.pc)))) ∧
  (∀ (s : State) (h0 h1 : Half), s.h = false → s.zz = false → s.interrupt = none →
    s.fetch16 s.pc = some h0 → (8 ≤ (h0.extractLsb' 11 5).toNat ∨ s.fetch16 (s.pc + 2) = some h1) →
    decodeHalves h0 h1 0#32 = .reserved →
    (s.haltShadow = 0 →
      step s = .next (s.enter .two 2 (s.pc + if (h0.extractLsb' 11 5).toNat < 8 then 4#32 else 2#32))) ∧
    (s.haltShadow ≠ 0 → step s = .refused .haltShadow)) ∧
  (∀ (s : State) (h0 h1 : Half) (u : UndefinedForm), s.h = false → s.zz = false → s.interrupt = none →
    s.fetch16 s.pc = some h0 → (8 ≤ (h0.extractLsb' 11 5).toNat ∨ s.fetch16 (s.pc + 2) = some h1) →
    decodeHalves h0 h1 0#32 = .undefinedForm u → step s = .refused (.undefinedEncoding u))

/-- An instruction of an optional component that the implementation does not have (46_extensions.md R530, R531): Instruction
Error, whatever the operands, with the base length (log 23), outside the shadow of a halting FLAG. The model's own choices in
it: logs 23 and 43. -/
def Obligations.AbsentOption : Prop :=
  ∀ (i : Instr) (s : State) (o : Opt), needs i.shape = some o → s.cfg.has o = false → s.haltShadow = 0 →
    exec i s = .next (s.enter .two 2 (s.pc + BitVec.ofNat 32 i.base))

/-! ### Data instructions -/

/-- The dual-operand instructions complete (40_alu_arith.md R220, 41_logic_move_bit.md R280, 42_shift_rotate.md R330): ADD, ADC,
SUB, SBC, AND, OR, BIC, XOR, MAX, MIN, RSUB, BSET, BCLR, BXOR, BMSK, ADD1, ADD2, ADD3, SUB1, SUB2, SUB3 and the multi-bit ASL,
LSR, ASR, ROR, in every format: the result goes to the destination, the flags are written exactly when F = 1, and nothing else
changes but what the end of every instruction changes. The results are the subject of the statements that follow. -/
def Obligations.AluCompletes : Prop :=
  ∀ (op : AluOp) (form : GenForm) (s : State) (a b : Word),
    s.NoHazard (genArgs form).len (aluNeeds op) → s.LoopReady (genArgs form).len (form.dest == 60#6) false →
    s.condMet (genArgs form).cond = true →
    s.value1 (genArgs form) = .ok a → s.value (genArgs form).len 1 (genArgs form).src2 = .ok b →
    exec (Instr.ofAlu op form) s = .next (s.ended (genArgs form).len { wroteLpCount := form.dest == 60#6 }
      { (s.afterReads (genArgs form).sources).writeCore form.dest (aluEval op s.flags a b).1 with
        flags := if form.setsFlags = true then (aluEval op s.flags a b).2 else s.flags })

/-- What the additions and subtractions compute (40_alu_arith.md R221 to R235, R228), in integers: the sum or difference modulo
2^32; C the carry out, or the borrow, of the unsigned operation; V that the signed result does not fit. The model's own choices
in it: log 40. -/
def Obligations.AddSubResults : Prop :=
  ∀ (f : Flags) (a b : Word),
    let isSum := fun (r : Word × Flags) (x y : Word) (c : Nat) =>
      r.1.toNat = (x.toNat + y.toNat + c) % 2 ^ 32 ∧ (r.2.z = true ↔ r.1 = 0#32) ∧ (r.2.n = true ↔ r.1.toInt < 0) ∧
      (r.2.c = true ↔ 2 ^ 32 ≤ x.toNat + y.toNat + c) ∧ (r.2.v = true ↔ r.1.toInt ≠ x.toInt + y.toInt + c)
    let isDiff := fun (r : Word × Flags) (x y : Word) (c : Nat) =>
      r.1.toInt = (x.toInt - y.toInt - c).bmod (2 ^ 32) ∧ (r.2.z = true ↔ r.1 = 0#32) ∧ (r.2.n = true ↔ r.1.toInt < 0) ∧
      (r.2.c = true ↔ x.toNat < y.toNat + c) ∧ (r.2.v = true ↔ r.1.toInt ≠ x.toInt - y.toInt - c)
    isSum (aluEval .add f a b) a b 0 ∧ isSum (aluEval .adc f a b) a b f.c.toNat ∧
    isDiff (aluEval .sub f a b) a b 0 ∧ isDiff (aluEval .sbc f a b) a b f.c.toNat ∧
    isDiff (aluEval .rsub f a b) b a 0 ∧
    isSum (aluEval .add1 f a b) a (b * 2) 0 ∧ isSum (aluEval .add2 f a b) a (b * 4) 0 ∧
    isSum (aluEval .add3 f a b) a (b * 8) 0 ∧
    isDiff (aluEval .sub1 f a b) a (b * 2) 0 ∧ isDiff (aluEval .sub2 f a b) a (b * 4) 0 ∧
    isDiff (aluEval .sub3 f a b) a (b * 8) 0

/-- What MAX, MIN and ABS compute (40_alu_arith.md R240, R241, R245), on signed numbers; ABS of the most negative number is
itself. The model's own choices in it: log 40. -/
def Obligations.MaxMinAbsResults : Prop :=
  ∀ (f : Flags) (a b : Word) (v : Bool),
    (aluEval .max f a b).1.toInt = max a.toInt b.toInt ∧ (aluEval .min f a b).1.toInt = min a.toInt b.toInt ∧
    ((aluEval .max f a b).2.c = true ↔ a.toInt ≤ b.toInt) ∧ ((aluEval .min f a b).2.c = true ↔ b.toInt ≤ a.toInt) ∧
    (∀ op, op = AluOp.max ∨ op = AluOp.min →
      ((aluEval op f a b).2.z = true ↔ a = b) ∧ ((aluEval op f a b).2.n = true ↔ (a - b).toInt < 0) ∧
      ((aluEval op f a b).2.v = true ↔ (a - b).toInt ≠ a.toInt - b.toInt)) ∧
    (a ≠ 0x80000000#32 → (sopEval .abs f v a).1.toInt = |a.toInt|) ∧
    (sopEval .abs f v 0x80000000#32).1 = 0x80000000#32 ∧
    ((sopEval .abs f v a).2.z = true ↔ a = 0#32) ∧ ((sopEval .abs f v a).2.n = true ↔ a = 0x80000000#32) ∧
    ((sopEval .abs f v a).2.c = true ↔ a.toInt < 0) ∧ ((sopEval .abs f v a).2.v = true ↔ a = 0x80000000#32)

/-- What the logical and bit instructions compute, bit by bit (41_logic_move_bit.md R281 to R286, R300 to R304); they set Z and
N from the result and leave C and V. `k` is the low five bits of the second operand. -/
def Obligations.LogicBitResults : Prop :=
  ∀ (f : Flags) (a b : Word) (i : Nat), i < 32 →
    let k := b.toNat % 32
    (aluEval .and f a b).1.getLsbD i = (a.getLsbD i && b.getLsbD i) ∧
    (aluEval .or f a b).1.getLsbD i = (a.getLsbD i || b.getLsbD i) ∧
    (aluEval .bic f a b).1.getLsbD i = (a.getLsbD i && !b.getLsbD i) ∧
    (aluEval .xor f a b).1.getLsbD i = (a.getLsbD i != b.getLsbD i) ∧
    (aluEval .bset f a b).1.getLsbD i = (a.getLsbD i || decide (i = k)) ∧
    (aluEval .bclr f a b).1.getLsbD i = (a.getLsbD i && decide (i ≠ k)) ∧
    (aluEval .bxor f a b).1.getLsbD i = (a.getLsbD i != decide (i = k)) ∧
    (aluEval .bmsk f a b).1.getLsbD i = (a.getLsbD i && decide (i ≤ k)) ∧
    (∀ op, op ∈ [AluOp.and, .or, .bic, .xor, .bset, .bclr, .bxor, .bmsk] →
      (aluEval op f a b).2 = ⟨(aluEval op f a b).1 == 0#32, (aluEval op f a b).1.getLsbD 31, f.c, f.v⟩)

/-- What the multi-bit shifts and rotates compute, bit by bit (42_shift_rotate.md R340 to R343, R330): only the low five bits of
the second operand count; C is the last bit shifted out and 0 for a count of 0; Z and N are from the result; V stays. -/
def Obligations.ShiftResults : Prop :=
  ∀ (f : Flags) (a b : Word) (i : Nat), i < 32 →
    let k := b.toNat % 32
    (aluEval .asl f a b).1.getLsbD i = (decide (k ≤ i) && a.getLsbD (i - k)) ∧
    (aluEval .lsr f a b).1.getLsbD i = a.getLsbD (i + k) ∧
    (aluEval .asr f a b).1.getLsbD i = (if i + k < 32 then a.getLsbD (i + k) else a.getLsbD 31) ∧
    (aluEval .ror f a b).1.getLsbD i = a.getLsbD ((i + k) % 32) ∧
    (aluEval .asl f a b).2.c = (decide (k ≠ 0) && a.getLsbD (32 - k)) ∧
    (∀ op, op ∈ [AluOp.lsr, .asr, .ror] → (aluEval op f a b).2.c = (decide (k ≠ 0) && a.getLsbD (k - 1))) ∧
    (∀ op, op ∈ [AluOp.asl, .lsr, .asr, .ror] →
      (aluEval op f a b).2.z = ((aluEval op f a b).1 == 0#32) ∧ (aluEval op f a b).2.n = (aluEval op f a b).1.getLsbD 31 ∧
      (aluEval op f a b).2.v = f.v)

/-- The comparisons and tests complete (TST, CMP, RCMP, BTST, in every format; 40_alu_arith.md R226, R227, 41_logic_move_bit.md
R286, R302): no register changes, and the flags are those of the subtraction, of the conjunction, or of the single bit. -/
def Obligations.TestCompletes : Prop :=
  ∀ (op : TestOp) (form : CmpForm) (s : State) (a b : Word),
    s.NoHazard (cmpArgs form).len none → s.LoopReady (cmpArgs form).len false false →
    s.condMet (cmpArgs form).cond = true →
    s.value1 (cmpArgs form) = .ok a → s.value (cmpArgs form).len 1 (cmpArgs form).src2 = .ok b →
    exec (Instr.ofTest op form) s = .next (s.ended (cmpArgs form).len {}
      { s.afterReads (cmpArgs form).sources with
        flags := match op with
          | .cmp => (aluEval .sub s.flags a b).2
          | .rcmp => (aluEval .rsub s.flags a b).2
          | .tst => (aluEval .and s.flags a b).2
          | .btst => ⟨!a.getLsbD (b.toNat % 32), decide (b.toNat % 32 = 31) && a.getLsbD 31, s.flags.c, s.flags.v⟩ })

/-- What the condition codes mean after a comparison (10_state.md R36, 40_alu_arith.md R226): EQ, NE, GT, GE, LT, LE of the
signed operands, HI, HS, LO, LS of the unsigned ones. The model's own choices in it: log 40. -/
def Obligations.CompareConditions : Prop :=
  ∀ (cfg : Config) (f : Flags) (a b : Word),
    let cc := fun q : BitVec 5 => condHolds cfg q (testEval .cmp f a b)
    (cc 0x01#5 = true ↔ a = b) ∧ (cc 0x02#5 = true ↔ a ≠ b) ∧
    (cc 0x09#5 = true ↔ b.toInt < a.toInt) ∧ (cc 0x0A#5 = true ↔ b.toInt ≤ a.toInt) ∧
    (cc 0x0B#5 = true ↔ a.toInt < b.toInt) ∧ (cc 0x0C#5 = true ↔ a.toInt ≤ b.toInt) ∧
    (cc 0x0D#5 = true ↔ b.toNat < a.toNat) ∧ (cc 0x06#5 = true ↔ b.toNat ≤ a.toNat) ∧
    (cc 0x05#5 = true ↔ a.toNat < b.toNat) ∧ (cc 0x0E#5 = true ↔ a.toNat ≤ b.toNat)

/-- The condition codes 0x00 to 0x0F (10_state.md R36). -/
def Obligations.ConditionCodes : Prop :=
  ∀ (cfg : Config) (f : Flags),
    let cc := fun q : BitVec 5 => condHolds cfg q f
    cc 0x00#5 = true ∧ cc 0x01#5 = f.z ∧ cc 0x02#5 = !f.z ∧ cc 0x03#5 = !f.n ∧ cc 0x04#5 = f.n ∧ cc 0x05#5 = f.c ∧
    cc 0x06#5 = !f.c ∧ cc 0x07#5 = f.v ∧ cc 0x08#5 = !f.v ∧
    cc 0x09#5 = ((f.n && f.v && !f.z) || (!f.n && !f.v && !f.z)) ∧
    cc 0x0A#5 = ((f.n && f.v) || (!f.n && !f.v)) ∧ cc 0x0B#5 = ((f.n && !f.v) || (!f.n && f.v)) ∧
    cc 0x0C#5 = (f.z || (f.n && !f.v) || (!f.n && f.v)) ∧ cc 0x0D#5 = (!f.c && !f.z) ∧ cc 0x0E#5 = (f.c || f.z) ∧
    cc 0x0F#5 = (!f.n && !f.z)

/-- Condition codes 0x10 to 0x1F (10_state.md R37): false when the implementation supplies no test. -/
def Obligations.ExtensionConditions : Prop :=
  ∀ (cfg : Config) (q : BitVec 5) (f : Flags), 16 ≤ q.toNat →
    (∀ x ∈ cfg.extCond, x.1 ≠ q) → condHolds cfg q f = false

/-- MOV completes, in every format (41_logic_move_bit.md R290): the source goes to the destination; Z and N are from it when F =
1. -/
def Obligations.MovCompletes : Prop :=
  ∀ (form : MovForm) (s : State) (v : Word),
    s.NoHazard (movArgs form).len none → s.LoopReady (movArgs form).len (form.dest == 60#6) false →
    s.condMet (movArgs form).cond = true → s.value (movArgs form).len 1 (movArgs form).src2 = .ok v →
    exec (.mov form) s = .next (s.ended (movArgs form).len { wroteLpCount := form.dest == 60#6 }
      { (s.afterReads (movArgs form).sources).writeCore form.dest v with
        flags := if form.setsFlags = true then ⟨v == 0#32, v.getLsbD 31, s.flags.c, s.flags.v⟩ else s.flags })

/-- The single-operand instructions complete (30_encoding.md R142): ASL, ASR, LSR, ROR, RRC, RLC by one, SEXB, SEXW, EXTB, EXTW,
ABS, NOT, SWAP, NORM, NORMW, in both formats. `v` is the flag V that RLC leaves undefined (42_shift_rotate.md R336): the
statement fixes no value for it, and no other instruction depends on it. The model's own choices in it: log 4. -/
def Obligations.SingleOperandCompletes : Prop :=
  ∀ (op : SopOp) (form : SopForm) (s : State) (a : Word),
    s.NoHazard (sopArgs form).len (sopNeeds op) → s.LoopReady (sopArgs form).len (form.dest == 60#6) false →
    s.value (sopArgs form).len 1 (sopArgs form).src2 = .ok a →
    ∃ v : Bool,
    exec (Instr.ofSop op form) s = .next (s.ended (sopArgs form).len { wroteLpCount := form.dest == 60#6 }
      { (s.afterReads (sopArgs form).sources).writeCore form.dest (sopEval op s.flags v a).1 with
        flags := if form.setsFlags = true then (sopEval op s.flags v a).2 else s.flags })

/-- What the single-operand instructions compute (42_shift_rotate.md R331 to R336, 41_logic_move_bit.md R285, R310 to R313,
46_extensions.md R545), bit by bit and with their flags. V after RLC is the value `v`, which nothing fixes. What NORM and NORMW
compute (46_extensions.md R546, R547): the number `n` of bits below the sign bit that equal it, up to the first that differs; Z
and N describe the source, of which NORMW looks at the low 16 bits. The model's own choices in it: log 40. -/
def Obligations.SingleOperandResults : Prop :=
  (∀ (f : Flags) (v : Bool) (a : Word) (i : Nat), i < 32 →
    (sopEval .asl f v a).1 = a + a ∧ (sopEval .asl f v a).2 = (aluEval .add f a a).2 ∧
    (sopEval .asr f v a).1.getLsbD i = (if i = 31 then a.getLsbD 31 else a.getLsbD (i + 1)) ∧
    (sopEval .lsr f v a).1.getLsbD i = (if i = 31 then false else a.getLsbD (i + 1)) ∧
    (sopEval .ror f v a).1.getLsbD i = (if i = 31 then a.getLsbD 0 else a.getLsbD (i + 1)) ∧
    (sopEval .rrc f v a).1.getLsbD i = (if i = 31 then f.c else a.getLsbD (i + 1)) ∧
    (sopEval .rlc f v a).1.getLsbD i = (if i = 0 then f.c else a.getLsbD (i - 1)) ∧
    (sopEval .rlc f v a).2.c = a.getLsbD 31 ∧ (sopEval .rlc f v a).2.v = v ∧
    (∀ op, op ∈ [SopOp.asr, .lsr, .ror, .rrc] → (sopEval op f v a).2.c = a.getLsbD 0 ∧ (sopEval op f v a).2.v = f.v) ∧
    (sopEval .sexb f v a).1.toInt = (a.toInt % 2 ^ 8).bmod (2 ^ 8) ∧
    (sopEval .sexw f v a).1.toInt = (a.toInt % 2 ^ 16).bmod (2 ^ 16) ∧
    (sopEval .extb f v a).1.toNat = a.toNat % 2 ^ 8 ∧ (sopEval .extw f v a).1.toNat = a.toNat % 2 ^ 16 ∧
    (sopEval .not f v a).1.getLsbD i = !a.getLsbD i ∧
    (sopEval .swap f v a).1.getLsbD i = a.getLsbD ((i + 16) % 32) ∧
    (∀ op, op ∈ [SopOp.sexb, .sexw, .extb, .extw, .not, .swap] → (sopEval op f v a).2.c = f.c ∧ (sopEval op f v a).2.v = f.v) ∧
    (∀ op, op ∈ [SopOp.asr, .lsr, .ror, .rrc, .rlc, .sexb, .sexw, .extb, .extw, .not, .swap] →
      (sopEval op f v a).2.z = ((sopEval op f v a).1 == 0#32) ∧ (sopEval op f v a).2.n = (sopEval op f v a).1.getLsbD 31)) ∧
  (∀ (f : Flags) (v : Bool) (a : Word),
    (∀ n, (sopEval .norm f v a).1.toNat = n →
      n ≤ 31 ∧ (∀ j, j ≤ n → a.getLsbD (31 - j) = a.getLsbD 31) ∧ (n < 31 → a.getLsbD (30 - n) ≠ a.getLsbD 31)) ∧
    (∀ n, (sopEval .normw f v a).1.toNat = n →
      n ≤ 15 ∧ (∀ j, j ≤ n → a.getLsbD (15 - j) = a.getLsbD 15) ∧ (n < 15 → a.getLsbD (14 - n) ≠ a.getLsbD 15)) ∧
    (sopEval .norm f v a).2 = ⟨a == 0#32, a.getLsbD 31, f.c, f.v⟩ ∧
    (sopEval .normw f v a).2 = ⟨decide (a.toNat % 2 ^ 16 = 0), a.getLsbD 15, f.c, f.v⟩)

/-- The multiplies complete (MUL64, MULU64, MUL64_S; 46_extensions.md R540 to R542): the 64-bit result register takes the
product, signed or unsigned, and no register and no flag changes. The model's own choices in it: log 30. -/
def Obligations.MultiplyCompletes : Prop :=
  (∀ (sgn : Bool) (form : CmpForm) (s : State) (a b : Word),
    s.NoHazard (cmpArgs form).len (some .mul64) → s.LoopReady (cmpArgs form).len false false →
    s.condMet (cmpArgs form).cond = true →
    s.value1 (cmpArgs form) = .ok a → s.value (cmpArgs form).len 1 (cmpArgs form).src2 = .ok b →
    ∃ p : BitVec 64, (if sgn = true then p.toInt = a.toInt * b.toInt else p.toNat = a.toNat * b.toNat) ∧
      exec (Instr.ofMul sgn form) s = .next (s.ended (cmpArgs form).len {} { s with mulres := p, mulBusy := true })) ∧
  (∀ (b c : Reg3) (s : State), s.NoHazard len16 (some .mul64) → s.LoopReady len16 false false →
    ∃ p : BitVec 64, p.toInt = (s.reg (reg16 b).toNat).toInt * (s.reg (reg16 c).toNat).toInt ∧
      exec (.mul64_s_bc b c) s = .next (s.ended len16 {} { s with mulres := p, mulBusy := true }))

/-- Reading core registers (10_state.md R30): r0 to r31; the multiply results as bits 31:0, 47:16 and 63:32 (46_extensions.md
R535); the reserved r61 refused; r62 the long immediate; r63 the aligned pc; LP_COUNT away from its hazards. Writing them (R31):
r0 to r31, LP_COUNT and an extension register that exists take the value; r61, r62, r63, r57 to r59 and registers that do not
exist discard it; reading a register that does not exist gives some value, without exception. The model's own choices in it:
logs 20 and 49. -/
def Obligations.CoreRegisterAccess : Prop :=
  (∀ (s : State) (l : Len) (slot : Nat) (r : Reg) (limm : Word),
    (r.toNat < 32 → s.readCore l slot r limm = .ok (s.reg r.toNat)) ∧
    (s.cfg.hasMul64 = true →
      s.readCore l slot 57#6 limm = .ok (BitVec.ofNat 32 s.mulres.toNat) ∧
      s.readCore l slot 58#6 limm = .ok (BitVec.ofNat 32 (s.mulres.toNat / 2 ^ 16)) ∧
      s.readCore l slot 59#6 limm = .ok (BitVec.ofNat 32 (s.mulres.toNat / 2 ^ 32))) ∧
    (32 ≤ r.toNat → r.toNat < 57 → r ∈ s.cfg.extCore → s.readCore l slot r limm = .ok (s.reg r.toNat)) ∧
    (32 ≤ r.toNat → r.toNat < 60 → ∃ v, s.readCore l slot r limm = .ok v) ∧
    (s.lpcAge ≠ 0 → s.npc l ≠ s.lpEnd → s.readCore l slot 60#6 limm = .ok s.lpCount) ∧
    s.readCore l slot 61#6 limm = .error .reservedRegister ∧
    s.readCore l slot 62#6 limm = .ok limm ∧
    s.readCore l slot 63#6 limm = .ok (s.pc &&& 0xFFFFFFFC#32)) ∧
  (∀ (s : State) (r : Reg) (v : Word),
    (r.toNat < 32 → s.writeCore r v = { s with regs := s.regs.setIfInBounds r.toNat v } ∧
      (s.writeCore r v).reg r.toNat = v ∧ ∀ n, n ≠ r.toNat → (s.writeCore r v).reg n = s.reg n) ∧
    s.writeCore 60#6 v = { s with lpCount := v } ∧
    (32 ≤ r.toNat → r.toNat < 57 → r ∈ s.cfg.extCore →
      s.writeCore r v = { s with regs := s.regs.setIfInBounds r.toNat v }) ∧
    (32 ≤ r.toNat → r.toNat < 57 → r ∉ s.cfg.extCore → s.writeCore r v = s) ∧
    (57 ≤ r.toNat → r.toNat < 60 → s.writeCore r v = s) ∧
    (60 < r.toNat → s.writeCore r v = s))

/-- A condition that is false (30_encoding.md R138): the instruction reads and writes nothing and the pc goes on (every
instruction with a condition but the branches, jumps and LP, which have their own statements). The model's own choices in it:
log 41. -/
def Obligations.FalseConditionSkips : Prop :=
  (∀ (op : AluOp) (form : GenForm) (s : State), s.NoHazard (genArgs form).len (aluNeeds op) →
    s.LoopReady (genArgs form).len false false → s.condMet (genArgs form).cond = false →
    exec (Instr.ofAlu op form) s = .next (s.ended (genArgs form).len {} s)) ∧
  (∀ (op : TestOp) (form : CmpForm) (s : State), s.NoHazard (cmpArgs form).len none →
    s.LoopReady (cmpArgs form).len false false → s.condMet (cmpArgs form).cond = false →
    exec (Instr.ofTest op form) s = .next (s.ended (cmpArgs form).len {} s)) ∧
  (∀ (sgn : Bool) (form : CmpForm) (s : State), s.NoHazard (cmpArgs form).len (some .mul64) →
    s.LoopReady (cmpArgs form).len false false → s.condMet (cmpArgs form).cond = false →
    exec (Instr.ofMul sgn form) s = .next (s.ended (cmpArgs form).len {} s)) ∧
  (∀ (form : MovForm) (s : State), s.NoHazard (movArgs form).len none →
    s.LoopReady (movArgs form).len false false → s.condMet (movArgs form).cond = false →
    exec (.mov form) s = .next (s.ended (movArgs form).len {} s)) ∧
  (∀ (b : Reg3) (s : State), s.NoHazard len16 none → s.LoopReady len16 false false → s.flags.z = true →
    exec (.sub_s_ne b) s = .next (s.ended len16 {} s))

/-! ### The 16-bit data instructions -/

/-- The 16-bit arithmetic instructions complete (40_alu_arith.md R221, R223, R229, R230 to R232, R245, R246), with their results
in terms of the registers they name; none of them changes a flag. `x`, `y`, `z` are the registers of the three fields. -/
def Obligations.Arith16Completes : Prop :=
  ∀ (s : State) (a b c : Reg3) (u3 : BitVec 3) (u5 : BitVec 5) (u7 : BitVec 7) (s9 : BitVec 9),
    s.NoHazard len16 none → s.LoopReady len16 false false →
    let x := (reg16 a).toNat
    let y := (reg16 b).toNat
    let z := (reg16 c).toNat
    let done : State → Result := fun t => .next (s.ended len16 {} t)
    exec (.add_s_abc a b c) s = done (s.setReg x (s.reg y + s.reg z)) ∧
    exec (.add_s_cbu3 c b u3) s = done (s.setReg z (s.reg y + u3.setWidth 32)) ∧
    exec (.sub_s_cbu3 c b u3) s = done (s.setReg z (s.reg y - u3.setWidth 32)) ∧
    exec (.sub_s_bbc b c) s = done (s.setReg y (s.reg y - s.reg z)) ∧
    exec (.sub_s_bbu5 b u5) s = done (s.setReg y (s.reg y - u5.setWidth 32)) ∧
    exec (.add1_s_bbc b c) s = done (s.setReg y (s.reg y + 2 * s.reg z)) ∧
    exec (.add2_s_bbc b c) s = done (s.setReg y (s.reg y + 4 * s.reg z)) ∧
    exec (.add3_s_bbc b c) s = done (s.setReg y (s.reg y + 8 * s.reg z)) ∧
    exec (.add_s_bspu7 b u5) s = done (s.setReg y (s.reg 28 + 4 * u5.setWidth 32)) ∧
    exec (.add_s_spspu7 u5) s = done (s.setReg 28 (s.reg 28 + 4 * u5.setWidth 32)) ∧
    exec (.sub_s_spspu7 u5) s = done (s.setReg 28 (s.reg 28 - 4 * u5.setWidth 32)) ∧
    exec (.add_s_r0gp s9) s = done (s.setReg 0 (s.reg 26 + 4 * s9.signExtend 32)) ∧
    exec (.add_s_bbu7 b u7) s = done (s.setReg y (s.reg y + u7.setWidth 32)) ∧
    exec (.neg_s_bc b c) s = done (s.setReg y (0#32 - s.reg z)) ∧
    exec (.abs_s_bc b c) s = done (s.setReg y (if (s.reg z).toInt < 0 then 0#32 - s.reg z else s.reg z)) ∧
    (s.flags.z = false → exec (.sub_s_ne b) s = done (s.setReg y 0#32))

/-- The 16-bit logical, move, bit, extension and shift instructions complete (41_logic_move_bit.md R281 to R285, R290, R300,
R301, R304, R310 to R313; 42_shift_rotate.md R331 to R333, R340 to R342), with their results in terms of the registers they
name; none of them changes a flag. The forms that shift by a count need the barrel shifter (log 43). The model's own choices in
it: log 43. -/
def Obligations.LogicShift16Completes : Prop :=
  (∀ (s : State) (b c : Reg3) (u5 : BitVec 5) (u8 : BitVec 8),
    s.NoHazard len16 none → s.LoopReady len16 false false →
    let y := (reg16 b).toNat
    let z := (reg16 c).toNat
    let done : State → Result := fun t => .next (s.ended len16 {} t)
    exec (.and_s_bbc b c) s = done (s.setReg y (s.reg y &&& s.reg z)) ∧
    exec (.or_s_bbc b c) s = done (s.setReg y (s.reg y ||| s.reg z)) ∧
    exec (.bic_s_bbc b c) s = done (s.setReg y (s.reg y &&& ~~~s.reg z)) ∧
    exec (.xor_s_bbc b c) s = done (s.setReg y (s.reg y ^^^ s.reg z)) ∧
    exec (.not_s_bc b c) s = done (s.setReg y (~~~s.reg z)) ∧
    exec (.bset_s_bbu5 b u5) s = done (s.setReg y (s.reg y ||| BitVec.twoPow 32 u5.toNat)) ∧
    exec (.bclr_s_bbu5 b u5) s = done (s.setReg y (s.reg y &&& ~~~BitVec.twoPow 32 u5.toNat)) ∧
    exec (.bmsk_s_bbu5 b u5) s = done (s.setReg y (BitVec.ofNat 32 ((s.reg y).toNat % 2 ^ (u5.toNat + 1)))) ∧
    exec (.sexb_s_bc b c) s = done (s.setReg y (BitVec.ofInt 32 ((s.reg z).toInt.bmod (2 ^ 8)))) ∧
    exec (.sexw_s_bc b c) s = done (s.setReg y (BitVec.ofInt 32 ((s.reg z).toInt.bmod (2 ^ 16)))) ∧
    exec (.extb_s_bc b c) s = done (s.setReg y (BitVec.ofNat 32 ((s.reg z).toNat % 2 ^ 8))) ∧
    exec (.extw_s_bc b c) s = done (s.setReg y (BitVec.ofNat 32 ((s.reg z).toNat % 2 ^ 16))) ∧
    exec (.mov_s_bu8 b u8) s = done (s.setReg y (u8.setWidth 32))) ∧
  (∀ (s : State) (b c : Reg3) (u3 : BitVec 3) (u5 : BitVec 5),
    s.NoHazard len16 none → s.LoopReady len16 false false →
    let y := (reg16 b).toNat
    let z := (reg16 c).toNat
    let done : State → Result := fun t => .next (s.ended len16 {} t)
    exec (.asl_s_bc b c) s = done (s.setReg y (s.reg z <<< 1)) ∧
    exec (.asr_s_bc b c) s = done (s.setReg y ((s.reg z).sshiftRight 1)) ∧
    exec (.lsr_s_bc b c) s = done (s.setReg y (s.reg z >>> 1)) ∧
    (s.cfg.hasBarrel = true →
      exec (.asl_s_bbc b c) s = done (s.setReg y (s.reg y <<< ((s.reg z).toNat % 32))) ∧
      exec (.lsr_s_bbc b c) s = done (s.setReg y (s.reg y >>> ((s.reg z).toNat % 32))) ∧
      exec (.asr_s_bbc b c) s = done (s.setReg y ((s.reg y).sshiftRight ((s.reg z).toNat % 32))) ∧
      exec (.asl_s_bbu5 b u5) s = done (s.setReg y (s.reg y <<< u5.toNat)) ∧
      exec (.lsr_s_bbu5 b u5) s = done (s.setReg y (s.reg y >>> u5.toNat)) ∧
      exec (.asr_s_bbu5 b u5) s = done (s.setReg y ((s.reg y).sshiftRight u5.toNat)) ∧
      exec (.asl_s_cbu3 c b u3) s = done (s.setReg z (s.reg y <<< u3.toNat)) ∧
      exec (.asr_s_cbu3 c b u3) s = done (s.setReg z ((s.reg y).sshiftRight u3.toNat))))

/-- The 16-bit forms with a register of the full range complete (ADD_S b,b,h; MOV_S b,h; MOV_S h,b; CMP_S b,h: 30_encoding.md
R173), whatever register, long immediate or LP_COUNT the field h names. The 16-bit comparisons and tests complete (CMP_S b,u7;
TST_S b,c; BTST_S b,u5: 40_alu_arith.md R226, 41_logic_move_bit.md R286, R302): only the flags change. -/
def Obligations.HighRegisterAndTest16Completes : Prop :=
  (∀ (s : State) (b : Reg3) (h : Reg) (limm : Word),
    let l : Len := ⟨true, h == 62#6⟩
    let y := (reg16 b).toNat
    let done : State → Result := fun t => .next (s.ended l {} t)
    (∀ v, s.readCore l 1 h limm = .ok v → s.NoHazard l none → s.LoopReady l false false →
      exec (.add_s_bbh b h limm) s = done ((s.afterReads [.reg h limm]).setReg y (s.reg y + v)) ∧
      exec (.mov_s_bh b h limm) s = done ((s.afterReads [.reg h limm]).setReg y v) ∧
      exec (.cmp_s_bh b h limm) s =
        done { s.afterReads [.reg h limm] with flags := (aluEval .sub s.flags (s.reg y) v).2 }) ∧
    (s.NoHazard len16 none → s.LoopReady len16 (h == 60#6) false →
      exec (.mov_s_hb h b) s = .next (s.ended len16 { wroteLpCount := h == 60#6 } (s.writeCore h (s.reg y))))) ∧
  (∀ (s : State) (b c : Reg3) (u5 : BitVec 5) (u7 : BitVec 7),
    s.NoHazard len16 none → s.LoopReady len16 false false →
    let y := s.reg (reg16 b).toNat
    let z := s.reg (reg16 c).toNat
    let done : Flags → Result := fun f => .next (s.ended len16 {} { s with flags := f })
    exec (.cmp_s_bu7 b u7) s = done (aluEval .sub s.flags y (u7.setWidth 32)).2 ∧
    exec (.tst_s_bc b c) s = done ⟨y &&& z == 0#32, (y &&& z).getLsbD 31, s.flags.c, s.flags.v⟩ ∧
    exec (.btst_s_bu5 b u5) s =
      done ⟨!y.getLsbD u5.toNat, decide (u5.toNat = 31) && y.getLsbD 31, s.flags.c, s.flags.v⟩)

/-! ### Memory -/

/-- Reading memory after writing it (20_memory.md R91, R92, R94, R95): a datum read back from where it was stored is its low
bytes; a read that shares no byte with the store reads as before; the canonical form stays. The model's own choices in it: log
1. -/
def Obligations.MemoryReadAfterWrite : Prop :=
  ∀ (s : State) (sz : Size) (a v : Word), s.mem.wf = true →
    (s.writeData sz a v).mem.wf = true ∧
    (s.writeData sz a v).readData sz a = BitVec.ofNat 32 (v.toNat % 2 ^ (8 * sizeBytes sz)) ∧
    (∀ k, k < sizeBytes sz →
      (s.writeData sz a v).readByte (a + BitVec.ofNat 32 k) = BitVec.ofNat 8 (v.toNat / 2 ^ (8 * k))) ∧
    (∀ x, ¬ inAccess a sz x → (s.writeData sz a v).readByte x = s.readByte x) ∧
    (∀ (sz' : Size) (x : Word), (∀ y, inAccess x sz' y → ¬ inAccess a sz y) →
      (s.writeData sz a v).readData sz' x = s.readData sz' x)

/-- The 32-bit loads complete (LD, LDB, LDW, with and without `.X`, in both formats and every write-back mode; 44_load_store.md
R440, R441, R444, R446, R447): base and offset are read, the base takes the write-back, then the destination takes the datum;
memory and flags stay. The destination is not LP_COUNT (`DataAccessExceptions`). The model's own choices in it: logs 21 and 31.
-/
def Obligations.LoadCompletes : Prop :=
  ∀ (kind : LdKind) (form : LdForm) (s : State) (base off : Word),
    let x := ldArgs (ldSize kind) form
    let ea := effAddr (ldSize kind) base off x.aa
    let count := wbWritesLpCount x.wb ea.2
    form.fits kind = true → ldDest form ≠ 60#6 → s.NoHazard x.len none → s.LoopReady x.len count false →
    s.value x.len 0 x.base = .ok base → s.value x.len 1 x.offset = .ok off →
    ea.1.toNat % sizeBytes (ldSize kind) = 0 → s.validFrom .load ea.1 (sizeBytes (ldSize kind)) = true →
    exec (Instr.ofLoad kind form) s = .next (s.ended x.len { wroteLpCount := count }
      { ((s.afterReads [x.base, x.offset]).writeBack x.wb ea.2).writeCore (ldDest form)
          (extendLoad (ldSize kind) (ldSigned kind) (s.readData (ldSize kind) ea.1)) with
        loadSeen := true })

/-- The effective address and the value written back to the base (44_load_store.md R444), by the write-back mode and the size (a
byte access is not scaled: WellFormed); and the value a load takes from memory (20_memory.md R94, R442): the bytes at the
address, little-endian, a signed byte or word extended by its sign. -/
def Obligations.AddressAndLoadedValue : Prop :=
  (∀ (sz : Size) (base off : Word),
    effAddr sz base off 0b00#2 = (base + off, none) ∧ effAddr sz base off 0b01#2 = (base + off, some (base + off)) ∧
    effAddr sz base off 0b10#2 = (base, some (base + off)) ∧
    effAddr .long base off 0b11#2 = (base + 4 * off, none) ∧ effAddr .half base off 0b11#2 = (base + 2 * off, none)) ∧
  (∀ (s : State) (a : Word),
    let byte := fun k : Nat => (s.readByte (a + BitVec.ofNat 32 k)).toNat
    (extendLoad .byte false (s.readData .byte a)).toNat = byte 0 ∧
    (extendLoad .half false (s.readData .half a)).toNat = byte 0 + 2 ^ 8 * byte 1 ∧
    (extendLoad .long false (s.readData .long a)).toNat =
      byte 0 + 2 ^ 8 * byte 1 + 2 ^ 16 * byte 2 + 2 ^ 24 * byte 3 ∧
    (extendLoad .byte true (s.readData .byte a)).toInt = (byte 0 : Int).bmod (2 ^ 8) ∧
    (extendLoad .half true (s.readData .half a)).toInt = (byte 0 + 2 ^ 8 * byte 1 : Int).bmod (2 ^ 16))

/-- The 16-bit loads complete (44_load_store.md R450 to R455): LD_S, LDB_S, LDW_S, LDW_S.X with two registers, with a scaled
offset, from SP, from GP, from the pc, and POP_S, with the address each computes and the registers each writes. The model's own
choices in it: log 21. -/
def Obligations.Load16Completes : Prop :=
  ∀ (s : State) (a b c : Reg3) (u5 : BitVec 5) (u8 : BitVec 8) (s9 : BitVec 9),
    s.NoHazard len16 none → s.LoopReady len16 false false →
    let x := (reg16 a).toNat
    let y := (reg16 b).toNat
    let z := (reg16 c).toNat
    let loads := fun (i : Instr) (sz : Size) (addr : Word) (write : Word → State) =>
      addr.toNat % sizeBytes sz = 0 → s.validFrom .load addr (sizeBytes sz) = true →
      exec i s = .next (s.ended len16 {} { write (s.readData sz addr) with loadSeen := true })
    loads (.ld_s_abc a b c) .long (s.reg y + s.reg z) (s.setReg x) ∧
    loads (.ldb_s_abc a b c) .byte (s.reg y + s.reg z) (s.setReg x) ∧
    loads (.ldw_s_abc a b c) .half (s.reg y + s.reg z) (s.setReg x) ∧
    loads (.ld_s_cbu7 c b u5) .long (s.reg y + 4 * u5.setWidth 32) (s.setReg z) ∧
    loads (.ldb_s_cbu5 c b u5) .byte (s.reg y + u5.setWidth 32) (s.setReg z) ∧
    loads (.ldw_s_cbu6 c b u5) .half (s.reg y + 2 * u5.setWidth 32) (s.setReg z) ∧
    loads (.ldw_s_x_cbu6 c b u5) .half (s.reg y + 2 * u5.setWidth 32)
      (fun v => s.setReg z ((v.setWidth 16).signExtend 32)) ∧
    loads (.ld_s_bspu7 b u5) .long (s.reg 28 + 4 * u5.setWidth 32) (s.setReg y) ∧
    loads (.ldb_s_bspu7 b u5) .byte (s.reg 28 + 4 * u5.setWidth 32) (s.setReg y) ∧
    loads (.ld_s_r0gp s9) .long (s.reg 26 + 4 * s9.signExtend 32) (s.setReg 0) ∧
    loads (.ldb_s_r0gp s9) .byte (s.reg 26 + s9.signExtend 32) (s.setReg 0) ∧
    loads (.ldw_s_r0gp s9) .half (s.reg 26 + 2 * s9.signExtend 32) (s.setReg 0) ∧
    loads (.ld_s_bpclu10 b u8) .long ((s.pc &&& 0xFFFFFFFC#32) + 4 * u8.setWidth 32) (s.setReg y) ∧
    loads (.pop_s_b b) .long (s.reg 28) (fun v => (s.setReg 28 (s.reg 28 + 4#32)).setReg y v) ∧
    loads .pop_s_blink .long (s.reg 28) (fun v => (s.setReg 28 (s.reg 28 + 4#32)).setReg 31 v)

/-- The 32-bit stores complete (ST, STB, STW, in every write-back mode; 44_load_store.md R460, R444, R446): the low bytes of the
data go to the address `effAddr` computes from the base and offset, which are read first; every other byte of memory reads as
before; the base takes the write-back; nothing else changes but what the end of every instruction changes. -/
def Obligations.StoreCompletes : Prop :=
  ∀ (sz : Size) (r b : Reg) (d : BitVec 9) (aa : BitVec 2) (di : Bool) (limm : Word) (s : State) (base v : Word),
    let l : Len := ⟨false, b == 62#6 || r == 62#6⟩
    let ea := effAddr sz base (d.signExtend 32) aa
    let count := b == 60#6 && ea.2.isSome
    aaFits (sz == .byte) b aa = true → s.mem.wf = true → s.NoHazard l none → s.LoopReady l count false →
    s.readCore l 0 b limm = .ok base → s.readCore l 1 r limm = .ok v →
    ea.1.toNat % sizeBytes sz = 0 → s.validFrom .store ea.1 (sizeBytes sz) = true →
    ∃ t, exec (Instr.ofShape (.store sz r b d aa di limm)) s = .next t ∧
      (∀ k, k < sizeBytes sz → t.readByte (ea.1 + BitVec.ofNat 32 k) = BitVec.ofNat 8 (v.toNat / 2 ^ (8 * k))) ∧
      (∀ x, ¬ inAccess ea.1 sz x → t.readByte x = s.readByte x) ∧
      { t with mem := s.mem } = s.ended l { wroteLpCount := count }
        ((s.afterReads [.reg b limm, .reg r limm]).writeBack (some b) ea.2)

/-- The 16-bit stores complete (44_load_store.md R461 to R463): ST_S, STB_S, STW_S with a scaled offset, ST_S and STB_S to SP,
and PUSH_S, with the address each computes; every other byte of memory reads as before; PUSH_S leaves the address in SP. -/
def Obligations.Store16Completes : Prop :=
  ∀ (s : State) (b c : Reg3) (u5 : BitVec 5), s.mem.wf = true →
    s.NoHazard len16 none → s.LoopReady len16 false false →
    let y := (reg16 b).toNat
    let z := (reg16 c).toNat
    let stores := fun (i : Instr) (sz : Size) (addr v : Word) (after : State) =>
      addr.toNat % sizeBytes sz = 0 → s.validFrom .store addr (sizeBytes sz) = true →
      ∃ t, exec i s = .next t ∧
        (∀ k, k < sizeBytes sz → t.readByte (addr + BitVec.ofNat 32 k) = BitVec.ofNat 8 (v.toNat / 2 ^ (8 * k))) ∧
        (∀ x, ¬ inAccess addr sz x → t.readByte x = s.readByte x) ∧
        { t with mem := s.mem } = s.ended len16 {} after
    stores (.st_s_cbu7 c b u5) .long (s.reg y + 4 * u5.setWidth 32) (s.reg z) s ∧
    stores (.stb_s_cbu5 c b u5) .byte (s.reg y + u5.setWidth 32) (s.reg z) s ∧
    stores (.stw_s_cbu6 c b u5) .half (s.reg y + 2 * u5.setWidth 32) (s.reg z) s ∧
    stores (.st_s_bspu7 b u5) .long (s.reg 28 + 4 * u5.setWidth 32) (s.reg y) s ∧
    stores (.stb_s_bspu7 b u5) .byte (s.reg 28 + 4 * u5.setWidth 32) (s.reg y) s ∧
    stores (.push_s_b b) .long (s.reg 28 - 4#32) (s.reg y) (s.setReg 28 (s.reg 28 - 4#32)) ∧
    stores .push_s_blink .long (s.reg 28 - 4#32) (s.reg 31) (s.setReg 28 (s.reg 28 - 4#32))

/-- Memory Error of a data access (60_exceptions.md R577, 44_load_store.md R446): an aligned access of what is not valid memory
writes no destination, no base and no memory; the return address is the one after the instruction (log 24). And where loads and
stores stop by name (20_memory.md R93, 44_load_store.md R443; logs 11 and 44): an address not aligned to the size, and a 32-bit
load into LP_COUNT. For the 32-bit loads and stores in every form, then for every 16-bit load and store with the address each
computes. The model's own choices in it: logs 11, 24 and 44. -/
def Obligations.DataAccessExceptions : Prop :=
  ((∀ (kind : LdKind) (form : LdForm) (s : State) (base off : Word),
    let x := ldArgs (ldSize kind) form
    let ea := effAddr (ldSize kind) base off x.aa
    ldDest form ≠ 60#6 → s.NoHazard x.len none →
    s.value x.len 0 x.base = .ok base → s.value x.len 1 x.offset = .ok off →
    ea.1.toNat % sizeBytes (ldSize kind) = 0 → s.validFrom .load ea.1 (sizeBytes (ldSize kind)) = false →
    exec (Instr.ofLoad kind form) s = .next (s.enter .two 1 (s.npc x.len))) ∧
  (∀ (sz : Size) (r b : Reg) (d : BitVec 9) (aa : BitVec 2) (di : Bool) (limm : Word) (s : State) (base v : Word),
    let l : Len := ⟨false, b == 62#6 || r == 62#6⟩
    let ea := effAddr sz base (d.signExtend 32) aa
    s.NoHazard l none → s.readCore l 0 b limm = .ok base → s.readCore l 1 r limm = .ok v →
    ea.1.toNat % sizeBytes sz = 0 → s.validFrom .store ea.1 (sizeBytes sz) = false →
    exec (Instr.ofShape (.store sz r b d aa di limm)) s = .next (s.enter .two 1 (s.npc l)))) ∧
  ((∀ (kind : LdKind) (form : LdForm) (s : State) (base off : Word),
    let x := ldArgs (ldSize kind) form
    s.NoHazard x.len none →
    (ldDest form = 60#6 → exec (Instr.ofLoad kind form) s = .refused .loadToLpCount) ∧
    (ldDest form ≠ 60#6 → s.value x.len 0 x.base = .ok base → s.value x.len 1 x.offset = .ok off →
      (effAddr (ldSize kind) base off x.aa).1.toNat % sizeBytes (ldSize kind) ≠ 0 →
      exec (Instr.ofLoad kind form) s = .refused .misaligned)) ∧
  (∀ (sz : Size) (r b : Reg) (d : BitVec 9) (aa : BitVec 2) (di : Bool) (limm : Word) (s : State) (base v : Word),
    let l : Len := ⟨false, b == 62#6 || r == 62#6⟩
    s.NoHazard l none → s.readCore l 0 b limm = .ok base → s.readCore l 1 r limm = .ok v →
    (effAddr sz base (d.signExtend 32) aa).1.toNat % sizeBytes sz ≠ 0 →
    exec (Instr.ofShape (.store sz r b d aa di limm)) s = .refused .misaligned)) ∧
  (∀ (s : State) (a b c : Reg3) (u5 : BitVec 5) (u8 : BitVec 8) (s9 : BitVec 9), s.NoHazard len16 none →
    let y := s.reg (reg16 b).toNat
    let z := s.reg (reg16 c).toNat
    let sp := s.reg 28
    let gp := s.reg 26
    let fails := fun (i : Instr) (kind : AccessKind) (sz : Size) (addr : Word) =>
      (addr.toNat % sizeBytes sz = 0 → s.validFrom kind addr (sizeBytes sz) = false →
        exec i s = .next (s.enter .two 1 (s.npc len16))) ∧
      (addr.toNat % sizeBytes sz ≠ 0 → exec i s = .refused .misaligned)
    fails (.ld_s_abc a b c) .load .long (y + z) ∧ fails (.ldb_s_abc a b c) .load .byte (y + z) ∧
    fails (.ldw_s_abc a b c) .load .half (y + z) ∧
    fails (.ld_s_cbu7 c b u5) .load .long (y + 4 * u5.setWidth 32) ∧
    fails (.ldb_s_cbu5 c b u5) .load .byte (y + u5.setWidth 32) ∧
    fails (.ldw_s_cbu6 c b u5) .load .half (y + 2 * u5.setWidth 32) ∧
    fails (.ldw_s_x_cbu6 c b u5) .load .half (y + 2 * u5.setWidth 32) ∧
    fails (.ld_s_bspu7 b u5) .load .long (sp + 4 * u5.setWidth 32) ∧
    fails (.ldb_s_bspu7 b u5) .load .byte (sp + 4 * u5.setWidth 32) ∧
    fails (.ld_s_r0gp s9) .load .long (gp + 4 * s9.signExtend 32) ∧
    fails (.ldb_s_r0gp s9) .load .byte (gp + s9.signExtend 32) ∧
    fails (.ldw_s_r0gp s9) .load .half (gp + 2 * s9.signExtend 32) ∧
    fails (.ld_s_bpclu10 b u8) .load .long ((s.pc &&& 0xFFFFFFFC#32) + 4 * u8.setWidth 32) ∧
    fails (.pop_s_b b) .load .long sp ∧ fails .pop_s_blink .load .long sp ∧
    fails (.st_s_cbu7 c b u5) .store .long (y + 4 * u5.setWidth 32) ∧
    fails (.stb_s_cbu5 c b u5) .store .byte (y + u5.setWidth 32) ∧
    fails (.stw_s_cbu6 c b u5) .store .half (y + 2 * u5.setWidth 32) ∧
    fails (.st_s_bspu7 b u5) .store .long (sp + 4 * u5.setWidth 32) ∧
    fails (.stb_s_bspu7 b u5) .store .byte (sp + 4 * u5.setWidth 32) ∧
    fails (.push_s_b b) .store .long (sp - 4#32) ∧ fails .push_s_blink .store .long (sp - 4#32))

/-! ### Control transfer -/

/-- The jumps complete (J, JL, J.D, JL.D, in every format; 43_branch_jump_loop.md R400, R405, R371, R374): taken, BLINK takes
the link value of a linking form and control goes to the source with bit 0 cleared, after the delay-slot instruction for a `.D`
form; not taken, nothing but the pc changes. `free` says whether LP_COUNT is unpredictable after it (R427). The model's own
choices in it: logs 17, 26, 35 and 53. -/
def Obligations.JumpCompletes : Prop :=
  (∀ (link : Bool) (form : JForm) (s : State),
    let x := jArgs form
    s.NoHazard x.len none → s.prevDslot = false → s.LoopReady x.len false false →
    (∀ v free, s.condMet x.cond = true → s.value x.len 1 x.src2 = .ok v →
      s.slotCheck x.len (jumpKind link x.len.limm) (some (v &&& 0xFFFFFFFE#32)) = .ok free →
      exec (Instr.ofJump link form) s =
        .next (s.ended x.len { transfer := some (v &&& 0xFFFFFFFE#32, false), lpCountFree := free }
          (if link = true then (s.afterReads [x.src2]).setReg 31 (s.npc x.len) else s.afterReads [x.src2]))) ∧
    (∀ free, s.condMet x.cond = false → s.slotCheck x.len (jumpKind link x.len.limm) none = .ok free →
      exec (Instr.ofJump link form) s = .next (s.ended x.len {} s))) ∧
  (∀ (link : Bool) (form : JDForm) (s : State),
    let x := jdArgs form
    let l : Len := ⟨false, false⟩
    let kind := if link = true then BranchKind.linkDelayed else BranchKind.delayed
    form.fits = true → s.NoHazard l none → s.prevDslot = false → s.LoopReady l false false →
    (∀ v free, s.condMet x.cond = true → s.value l 1 x.src2 = .ok v →
      s.slotCheck l kind (some (v &&& 0xFFFFFFFE#32)) = .ok free →
      exec (Instr.ofJumpD link form) s =
        .next (s.ended l { transfer := some (v &&& 0xFFFFFFFE#32, true), lpCountFree := free, dslotForm := true }
          (if link = true then (s.afterReads [x.src2]).setReg 31 (s.linkValue l true) else s.afterReads [x.src2]))) ∧
    (∀ free, s.condMet x.cond = false → s.slotCheck l kind none = .ok free →
      exec (Instr.ofJumpD link form) s = .next (s.ended l { dslotForm := true } s)))

/-- The 32-bit branches complete (Bcc, B, BLcc, BL, with and without `.D`; 43_branch_jump_loop.md R380, R381, R385, R386, R370):
the target is the displacement from the aligned pc, scaled by 2, or by 4 for the linking forms. The link value (R384) is the
address after the branch, and with a delay slot the address after the delay-slot instruction, 2 or 4 bytes long by its major
opcode. The model's own choices in it: logs 17 and 35. -/
def Obligations.BranchCompletes : Prop :=
  (∀ (s : State) (d20 : BitVec 20) (d24 : BitVec 24) (d19 : BitVec 19) (d23 : BitVec 23) (n : Bool) (q : BitVec 5),
    let l : Len := ⟨false, false⟩
    s.NoHazard l none → s.prevDslot = false → s.LoopReady l false false →
    let taken := fun (i : Instr) (link : Bool) (rd : Word) =>
      ∀ free, s.slotCheck l (relKind link n) (some ((s.pc &&& 0xFFFFFFFC#32) + rd)) = .ok free →
        exec i s = .next (s.ended l
          { transfer := some ((s.pc &&& 0xFFFFFFFC#32) + rd, n), lpCountFree := free, dslotForm := n }
          (if link = true then s.setReg 31 (s.linkValue l n) else s))
    let falls := fun (i : Instr) (link : Bool) =>
      ∀ free, s.slotCheck l (relKind link n) none = .ok free → exec i s = .next (s.ended l { dslotForm := n } s)
    (condHolds s.cfg q s.flags = true → taken (.bcc d20 n q) false (2 * d20.signExtend 32) ∧
      taken (.blcc d19 n q) true (4 * d19.signExtend 32)) ∧
    (condHolds s.cfg q s.flags = false → falls (.bcc d20 n q) false ∧ falls (.blcc d19 n q) true) ∧
    taken (.b_s25 d24 n) false (2 * d24.signExtend 32) ∧ taken (.bl d23 n) true (4 * d23.signExtend 32)) ∧
  (∀ (s : State) (l : Len),
    s.linkValue l false = s.pc + l.bytes ∧
    (∀ h, s.fetch16 (s.pc + l.bytes) = some h →
      s.linkValue l true = s.pc + l.bytes + if (h.extractLsb' 11 5).toNat < 8 then 4#32 else 2#32))

/-- The compare-and-branch instructions complete (BREQ, BRNE, BRLT, BRGE, BRLO, BRHS, BBIT0, BBIT1 in both formats, with and
without `.D`; 43_branch_jump_loop.md R390 to R393): their tests are equality, signed order, unsigned order, and one bit of the
first operand; no register but the loop counter and no flag changes. The model's own choices in it: logs 17 and 18. -/
def Obligations.CompareBranchCompletes : Prop :=
  (∀ a b : Word,
    (brTaken .breq a b = true ↔ a = b) ∧ (brTaken .brne a b = true ↔ a ≠ b) ∧
    (brTaken .brlt a b = true ↔ a.toInt < b.toInt) ∧ (brTaken .brge a b = true ↔ b.toInt ≤ a.toInt) ∧
    (brTaken .brlo a b = true ↔ a.toNat < b.toNat) ∧ (brTaken .brhs a b = true ↔ b.toNat ≤ a.toNat) ∧
    (brTaken .bbit0 a b = true ↔ a.getLsbD (b.toNat % 32) = false) ∧
    (brTaken .bbit1 a b = true ↔ a.getLsbD (b.toNat % 32) = true)) ∧
  (∀ (op : BrOp) (form : BrForm) (s : State),
    let l := len32 form.limmPart
    let kind := fun n : Bool => if n = true then BranchKind.cmpDelayed else BranchKind.cmp
    let pcl := s.pc &&& 0xFFFFFFFC#32
    form.fits = true → s.NoHazard l none → s.prevDslot = false → s.LoopReady l false false →
    let run := fun (o1 o2 : Operand) (d : BitVec 8) (n : Bool) =>
      ∀ a b free, s.value l 0 o1 = .ok a → s.value l 1 o2 = .ok b →
        (brTaken op a b = true → s.slotCheck l (kind n) (some (pcl + 2 * d.signExtend 32)) = .ok free →
          exec (Instr.ofBr op form) s = .next (s.ended l
            { transfer := some (pcl + 2 * d.signExtend 32, n), lpCountFree := free, dslotForm := n, cmpBranch := true }
            (s.afterReads [o1, o2]))) ∧
        (brTaken op a b = false → s.slotCheck l (kind n) none = .ok free →
          exec (Instr.ofBr op form) s = .next (s.ended l { dslotForm := n, cmpBranch := true } (s.afterReads [o1, o2])))
    match form with
    | .bcs9 b r d n limm => run (.reg b limm) (.reg r limm) d n
    | .bu6s9 b u d n limm => run (.reg b limm) (.imm (u.setWidth 32)) d n)

/-- The 16-bit jumps and branches complete (J_S, J_S.D, JL_S, JL_S.D, JEQ_S, JNE_S, B_S, BEQ_S, BNE_S, BGT_S, BGE_S, BLT_S,
BLE_S, BHI_S, BHS_S, BLO_S, BLS_S, BREQ_S, BRNE_S, BL_S; 43_branch_jump_loop.md R402, R406, R382, R383, R391, R387): each with
its target and, where it has one, its condition on the flags or on the register. The model's own choices in it: logs 17, 26 and
35. -/
def Obligations.Branch16Completes : Prop :=
  ∀ (s : State) (b : Reg3) (d6 : BitVec 6) (d7 : BitVec 7) (d9 : BitVec 9) (d11 : BitVec 11),
    s.NoHazard len16 none → s.prevDslot = false → s.LoopReady len16 false false →
    let y := s.reg (reg16 b).toNat
    let f := s.flags
    let pcl := s.pc &&& 0xFFFFFFFC#32
    let even := fun v : Word => v &&& 0xFFFFFFFE#32
    let goes := fun (i : Instr) (cond : Bool) (target : Word) (k : BranchKind) (e : Ending) (d : Bool) (t : State) =>
      (∀ free, cond = true → s.slotCheck len16 k (some target) = .ok free →
        exec i s = .next (s.ended len16 { e with transfer := some (target, d), lpCountFree := free, dslotForm := d } t)) ∧
      (∀ free, cond = false → s.slotCheck len16 k none = .ok free →
        exec i s = .next (s.ended len16 { e with dslotForm := d } s))
    let cmp : Ending := { cmpBranch := true }
    goes (.j_s_b b) true (even y) .plain {} false s ∧ goes (.j_s_d_b b) true (even y) .delayed {} true s ∧
    goes (.jl_s_b b) true (even y) .link {} false (s.setReg 31 (s.pc + 2#32)) ∧
    goes (.jl_s_d_b b) true (even y) .linkDelayed {} true (s.setReg 31 (s.linkValue len16 true)) ∧
    goes .j_s_blink true (even (s.reg 31)) .plain {} false s ∧
    goes .j_s_d_blink true (even (s.reg 31)) .delayed {} true s ∧
    goes .jeq_s_blink f.z (even (s.reg 31)) .plain {} false s ∧
    goes .jne_s_blink (!f.z) (even (s.reg 31)) .plain {} false s ∧
    goes (.b_s d9) true (pcl + 2 * d9.signExtend 32) .plain {} false s ∧
    goes (.beq_s d9) f.z (pcl + 2 * d9.signExtend 32) .plain {} false s ∧
    goes (.bne_s d9) (!f.z) (pcl + 2 * d9.signExtend 32) .plain {} false s ∧
    goes (.bgt_s d6) (!f.z && f.n == f.v) (pcl + 2 * d6.signExtend 32) .plain {} false s ∧
    goes (.bge_s d6) (f.n == f.v) (pcl + 2 * d6.signExtend 32) .plain {} false s ∧
    goes (.blt_s d6) (f.n != f.v) (pcl + 2 * d6.signExtend 32) .plain {} false s ∧
    goes (.ble_s d6) (f.z || f.n != f.v) (pcl + 2 * d6.signExtend 32) .plain {} false s ∧
    goes (.bhi_s d6) (!f.c && !f.z) (pcl + 2 * d6.signExtend 32) .plain {} false s ∧
    goes (.bhs_s d6) (!f.c) (pcl + 2 * d6.signExtend 32) .plain {} false s ∧
    goes (.blo_s d6) f.c (pcl + 2 * d6.signExtend 32) .plain {} false s ∧
    goes (.bls_s d6) (f.c || f.z) (pcl + 2 * d6.signExtend 32) .plain {} false s ∧
    goes (.breq_s b d7) (y == 0#32) (pcl + 2 * d7.signExtend 32) .cmp cmp false s ∧
    goes (.brne_s b d7) (y != 0#32) (pcl + 2 * d7.signExtend 32) .cmp cmp false s ∧
    goes (.bl_s d11) true (pcl + 4 * d11.signExtend 32) .link {} false (s.setReg 31 (s.pc + 2#32))

/-- Return from interrupt or exception completes (J.F [ILINK1], J.F [ILINK2], with a condition and with `.D`;
43_branch_jump_loop.md R401, 60_exceptions.md R580): the flags and the enables come from the status save register, H stays, and
control goes to the link register with bit 0 cleared. The model's own choices in it: logs 17, 25 and 26. -/
def Obligations.ReturnCompletes : Prop :=
  ∀ (form : JFForm) (s : State),
    let l : Len := ⟨false, false⟩
    let d := match form with | .c _ d => d | .ccc _ d _ => d
    let kind := if d = true then BranchKind.delayed else BranchKind.plain
    s.NoHazard l none → s.prevDslot = false → s.prevFlag = false → s.prevSrStatusL = false → s.LoopReady l false false →
    let holds := match form with | .c _ _ => true | .ccc _ _ q => condHolds s.cfg q s.flags
    let returns := fun saved link : Word =>
      ∀ free, holds = true → s.slotCheck l kind (some (link &&& 0xFFFFFFFE#32)) = .ok free →
        exec (.j_f form) s = .next (s.ended l
          { transfer := some (link &&& 0xFFFFFFFE#32, d), lpCountFree := free, dslotForm := d }
          { s with
            flags := ⟨saved.getLsbD 11, saved.getLsbD 10, saved.getLsbD 9, saved.getLsbD 8⟩
            e2 := saved.getLsbD 2
            e1 := saved.getLsbD 1 })
    (match form with
      | .c false _ | .ccc false _ _ => returns s.statusL1 (s.reg 29)
      | .c true _ | .ccc true _ _ => returns s.statusL2 (s.reg 30)) ∧
    (∀ free, holds = false → s.slotCheck l kind none = .ok free →
      exec (.j_f form) s = .next (s.ended l { dslotForm := d } s))

/-- LP completes (43_branch_jump_loop.md R420): with its condition true it sets LP_START to the next instruction and LP_END to
its target, and the pc goes on; with its condition false it branches to the target. Loops of fewer than two words are refused
(R426; `LoopSetupStops`), and so is LP in the last two slots of a loop (R427; `LoopSlotStops`). The model's own choices in it:
logs 17 and 19. -/
def Obligations.LpCompletes : Prop :=
  ∀ (form : LpForm) (s : State),
    let l : Len := ⟨false, false⟩
    let stop := (s.pc &&& 0xFFFFFFFC#32) + match form with
      | .s13 d => 2 * d.signExtend 32
      | .ccu7 u _ => 2 * u.setWidth 32
    let holds := match form with
      | .s13 _ => true
      | .ccu7 _ q => condHolds s.cfg q s.flags
    s.NoHazard l none → s.prevDslot = false → s.lpBarred l = false → s.LoopReady l false false →
    (holds = true → s.loopTooShort (s.pc + 4#32) stop = false →
      exec (.lp form) s = .next (s.ended l {} { s with lpStart := s.pc + 4#32, lpEnd := stop })) ∧
    (holds = false → exec (.lp form) s = .next (s.ended l { transfer := some (stop, false) } s))

/-- The end of every instruction (43_branch_jump_loop.md R425): the zero-overhead loop and the delay slot, from the values at
the start of the instruction. A transfer without delay slot wins, then a pending target, then the loop; the counter goes down by
one at the end of the loop in every case. The model's own choices in it: logs 34 and 47. -/
def Obligations.EndOfInstruction : Prop :=
  ∀ (s t : State) (l : Len) (e : Ending),
    let npc := s.pc + l.bytes
    let atEnd := npc = s.lpEnd
    let seq := if atEnd ∧ s.lpCount ≠ 0#32 ∧ s.lpCount ≠ 1#32 then s.lpStart else npc
    (∀ x, e.transfer = some (x, false) → (s.ended l e t).pc = x ∧ (s.ended l e t).delayTarget = none) ∧
    (∀ x, e.transfer = some (x, true) → (s.ended l e t).pc = seq ∧ (s.ended l e t).delayTarget = some x) ∧
    (∀ x, e.transfer = none → s.delayTarget = some x → (s.ended l e t).pc = x ∧ (s.ended l e t).delayTarget = none) ∧
    (e.transfer = none → s.delayTarget = none → (s.ended l e t).pc = seq ∧ (s.ended l e t).delayTarget = none) ∧
    (e.lpCountFree = false → atEnd → (s.ended l e t).lpCount = s.lpCount - 1#32) ∧
    (e.lpCountFree = false → ¬ atEnd → (s.ended l e t).lpCount = t.lpCount)

/-- A loop body runs as often as LP_COUNT says: over `n` completions of its last instruction (43_branch_jump_loop.md R425), each
leaving every loop register to the mechanism, a counter that starts at `n` ends at 0, control goes back to LP_START each time
but the last, and then falls through. `pass k` is the state in which the last instruction of the body starts for the k-th time.
The model's own choices in it: log 47. -/
def Obligations.LoopRunsCountTimes : Prop :=
  ∀ (n : Nat) (l : Len) (pass : Nat → State) (finish start : Word), 0 < n → n < 2 ^ 32 →
    (∀ k, k < n → (pass k).pc + l.bytes = finish ∧ (pass k).lpEnd = finish ∧ (pass k).lpStart = start ∧
      (pass k).delayTarget = none) →
    (pass 0).lpCount = BitVec.ofNat 32 n →
    (∀ k, k + 1 < n → (pass (k + 1)).lpCount = ((pass k).ended l {} (pass k)).lpCount) →
    (∀ k, k + 1 < n → ((pass k).ended l {} (pass k)).pc = start) ∧
    ((pass (n - 1)).ended l {} (pass (n - 1))).pc = finish ∧ ((pass (n - 1)).ended l {} (pass (n - 1))).lpCount = 0#32

/-- Where a branch, a jump, J.F, LP or an SR to a loop bound stops because of the slot it stands in (43_branch_jump_loop.md
R427, Tables 5.12 to 5.14), by kind and by slot counted back from the end of the loop; slot 0 is the last. First the table
itself (`barred`: in any case; `barredInside`: with a target inside the loop; the rest: LP_COUNT unpredictable after an early
exit); then that every branch and jump, J.F, LP and SR is refused there, when nothing else stops it before. The model's own
choices in it: logs 17, 18 and 53. -/
def Obligations.LoopSlotStops : Prop :=
  let barred := fun (k : BranchKind) (slot : Nat) =>
    (slot = 0 ∧ k ≠ .plain ∧ k ≠ .cmp) ∨ (slot = 1 ∧ (k = .linkDelayed ∨ k = .jumpLinkLimm))
  let barredInside := fun (k : BranchKind) (slot : Nat) =>
    (slot = 0 ∧ (k = .plain ∨ k = .cmp)) ∨ (slot = 1 ∧ (k = .delayed ∨ k = .cmpDelayed ∨ k = .jumpLimm))
  let inside := fun (s : State) (t : Word) => s.lpStart.toNat ≤ t.toNat ∧ t.toNat < s.lpEnd.toNat
  (∀ (s : State) (l : Len) (k : BranchKind) (slot : Nat) (target : Option Word), s.loopSlotOf l = some slot →
    let within := ∃ t, target = some t ∧ inside s t
    (s.slotCheck l k target = .error .loopSlot ↔ barred k slot ∨ (barredInside k slot ∧ within)) ∧
    (∀ r, s.slotCheck l k target = .error r → r = .loopSlot) ∧
    (s.slotCheck l k target = .ok true ↔ (∃ t, target = some t) ∧ ¬ within ∧
      ((slot = 1 ∧ (k = .plain ∨ k = .cmp)) ∨ (slot = 2 ∧ (k = .cmp ∨ k = .cmpDelayed)))) ∧
    (s.lpBarred l = true ↔ slot < 2) ∧
    (∀ a, s.srBarred l a = true ↔ (a = 2#32 ∨ a = 3#32) ∧ slot < 3)) ∧
  (∀ (i : Instr) (x : BranchArgs) (s : State) (slot : Nat), i.shape.branchArgs = some x → s.NoHazard x.len none →
    s.prevDslot = false → s.loopSlotOf x.len = some slot →
    (∀ t, s.branchTaken x = .ok true → s.branchTarget x = .ok t →
      barred x.kind slot ∨ (barredInside x.kind slot ∧ inside s t) → exec i s = .refused .loopSlot) ∧
    (s.branchTaken x = .ok false → barred x.kind slot → exec i s = .refused .loopSlot)) ∧
  (∀ (form : JFForm) (s : State) (slot : Nat),
    let d := match form with | .c _ d => d | .ccc _ d _ => d
    let link := s.reg (match form with | .c false _ | .ccc false _ _ => 29 | .c true _ | .ccc true _ _ => 30)
    let holds := match form with | .c _ _ => true | .ccc _ _ q => condHolds s.cfg q s.flags
    s.NoHazard ⟨false, false⟩ none → s.prevDslot = false → s.prevFlag = false → s.prevSrStatusL = false →
    s.loopSlotOf ⟨false, false⟩ = some slot →
    (d = true ∧ slot = 0) ∨ (holds = true ∧ inside s (link &&& 0xFFFFFFFE#32) ∧ (slot = 0 ∨ (d = true ∧ slot = 1))) →
    exec (.j_f form) s = .refused .loopSlot) ∧
  (∀ (form : LpForm) (s : State) (slot : Nat), s.NoHazard ⟨false, false⟩ none → s.prevDslot = false →
    s.loopSlotOf ⟨false, false⟩ = some slot → slot < 2 → exec (.lp form) s = .refused .loopSlot) ∧
  (∀ (form : SrForm) (s : State) (v a : Word) (slot : Nat),
    let x := srArgs form
    s.NoHazard x.len none → s.value1 x = .ok v → s.value x.len 1 x.src2 = .ok a → a = 2#32 ∨ a = 3#32 →
    s.loopSlotOf x.len = some slot → slot < 3 → exec (.sr form) s = .refused .loopSlot)

/-- Where a loop stops because it is too short or was set up too late. LP for a loop of fewer than two instruction words
(43_branch_jump_loop.md R426): `first` and `second` are the instructions that stand at the new LP_START and after it, each word
and each long immediate counting as one word; a second instruction that cannot be fetched counts 2 bytes (log 51). The end of a
loop fewer than four words after a write of LP_COUNT (70_reset_and_hazards.md R652), or fewer than three after an SR to LP_START
or LP_END (R653): the completion of any instruction is refused there, so no instruction but BRK_S, or one that takes an
exception, has a next state there. The model's own choices in it: logs 16, 19 and 51. -/
def Obligations.LoopSetupStops : Prop :=
  (∀ (form : LpForm) (s : State) (first : Len),
    let l : Len := ⟨false, false⟩
    let start := s.pc + 4#32
    let stop := (s.pc &&& 0xFFFFFFFC#32) + match form with
      | .s13 d => 2 * d.signExtend 32
      | .ccu7 u _ => 2 * u.setWidth 32
    let holds := match form with
      | .s13 _ => true
      | .ccu7 _ q => condHolds s.cfg q s.flags
    s.NoHazard l none → s.prevDslot = false → s.lpBarred l = false → holds = true → stop ≠ start →
    s.lenAt start = some first →
    (first.limm = true → (stop - start).toNat < first.bytes.toNat → exec (.lp form) s = .refused .loopTooShort) ∧
    (first.limm = false → ∀ second, s.lenAt (start + first.bytes) = some second →
      (stop - start).toNat < first.bytes.toNat + second.base.toNat → exec (.lp form) s = .refused .loopTooShort) ∧
    (first.limm = false → s.lenAt (start + first.bytes) = none →
      (stop - start).toNat < first.bytes.toNat + 2 → exec (.lp form) s = .refused .loopTooShort)) ∧
  (∀ (s t : State) (l : Len) (e : Ending), s.pc + l.bytes = s.lpEnd →
    (e.wroteLpCount = true ∨ s.lpcAge + l.words < 4 → s.retire l e t = .refused .loopCountTooLate) ∧
    (e.wroteLpCount = false → 4 ≤ s.lpcAge + l.words → e.wroteLoopBounds = true ∨ s.lpseAge + l.words < 3 →
      s.retire l e t = .refused .loopBoundsTooLate)) ∧
  (∀ (op : AluOp) (form : GenForm) (s : State) (a b : Word),
    let x := genArgs form
    s.NoHazard x.len (aluNeeds op) → s.condMet x.cond = true → s.value1 x = .ok a → s.value x.len 1 x.src2 = .ok b →
    s.pc + x.len.bytes = s.lpEnd →
    (form.dest = 60#6 ∨ s.lpcAge + x.len.words < 4 → exec (Instr.ofAlu op form) s = .refused .loopCountTooLate) ∧
    (form.dest ≠ 60#6 → 4 ≤ s.lpcAge + x.len.words → s.lpseAge + x.len.words < 3 →
      exec (Instr.ofAlu op form) s = .refused .loopBoundsTooLate)) ∧
  (∀ (i : Instr) (s t : State), exec i s = .next t → s.pc + BitVec.ofNat 32 i.length = s.lpEnd →
    s.lpcAge + (if i.hasLimm = true then 2 else 1) < 4 ∨ s.lpseAge + (if i.hasLimm = true then 2 else 1) < 3 →
    i = .brk_s ∨ ((t.pc = s.intVectorBase + 8#32 ∨ t.pc = s.intVectorBase + 16#32) ∧ t.e1 = false ∧ t.e2 = false ∧
      t.lpCount = s.lpCount))

/-! ### System instructions -/

/-- FLAG completes (45_aux_system.md R492), in every format: with bit 0 of the source 1 the core halts, with SH set and three
NOPs required after the restart, and no other status bit changes; else Z, N, C, V, E2 and E1 are the bits of the source. With
its condition false nothing is written. The model's own choices in it: logs 33 and 41. -/
def Obligations.FlagCompletes : Prop :=
  ∀ (form : JForm) (s : State),
    let x := jArgs form
    s.NoHazard x.len none → s.LoopReady x.len false false →
    (∀ v, s.condMet x.cond = true → s.value x.len 1 x.src2 = .ok v →
      (v.getLsbD 0 = true → exec (.flag form) s =
        .next (s.ended x.len { wasFlag := true } { s.afterReads [x.src2] with h := true, sh := true, haltShadow := 3 })) ∧
      (v.getLsbD 0 = false → exec (.flag form) s =
        .next (s.ended x.len { wasFlag := true } { s.afterReads [x.src2] with
          flags := ⟨v.getLsbD 11, v.getLsbD 10, v.getLsbD 9, v.getLsbD 8⟩
          e2 := v.getLsbD 2
          e1 := v.getLsbD 1 }))) ∧
    (s.condMet x.cond = false → exec (.flag form) s = .next (s.ended x.len { wasFlag := true } s))

/-- LR completes, in both formats (45_aux_system.md R490): the destination takes the auxiliary register of the given number.
What LR reads (10_state.md R38, R41 to R51): every auxiliary register by number, on the bits the manual fixes. The reserved bits
of a register, and a register that does not exist, have no fixed value (log 27). An extension register that exists reads by its
own rule (log 7). The model's own choices in it: logs 4, 6, 7, 27, 28 and 40. -/
def Obligations.LrCompletes : Prop :=
  (∀ (form : LrForm) (s : State) (a : Word),
    let x := lrArgs form
    s.NoHazard x.len none → s.LoopReady x.len (form.dest == 60#6) false → s.value x.len 1 x.src2 = .ok a →
    exec (.lr form) s = .next (s.ended x.len { wroteLpCount := form.dest == 60#6 }
      ((s.afterReads [x.src2]).writeCore form.dest (s.auxRead a)))) ∧
  (∀ s : State,
    let f := s.flags
    let bit := fun (b : Bool) (n : Nat) => if b = true then 2 ^ n else 0
    (s.auxRead 0x0#32).toNat % 2 ^ 24 = s.pc.toNat / 4 % 2 ^ 24 ∧
    (s.auxRead 0x0#32).toNat / 2 ^ 25 =
      bit f.z 6 + bit f.n 5 + bit f.c 4 + bit f.v 3 + bit s.e2 2 + bit s.e1 1 + bit s.h 0 ∧
    s.auxRead 0x1#32 &&& semMask s.cfg = s.semCpu &&& semMask s.cfg ∧
    s.auxRead 0x2#32 = s.lpStart ∧ s.auxRead 0x3#32 = s.lpEnd ∧ s.auxRead 0x4#32 = s.cfg.identity ∧
    (s.auxRead 0x5#32).getLsbD 30 = s.sh ∧ (s.auxRead 0x5#32).getLsbD 29 = s.bh ∧
    (s.auxRead 0x5#32).getLsbD 23 = s.zz ∧ (s.auxRead 0x5#32).getLsbD 1 = false ∧
    (s.loadSeen = false → (s.auxRead 0x5#32).getLsbD 31 = false) ∧
    s.auxRead 0x6#32 = s.pc ∧
    (s.auxRead 0xA#32 &&& 0xF07#32).toNat =
      bit f.z 11 + bit f.n 10 + bit f.c 9 + bit f.v 8 + bit s.e2 2 + bit s.e1 1 + bit s.h 0 ∧
    s.auxRead 0xB#32 &&& 0xF06#32 = s.statusL1 &&& 0xF06#32 ∧ s.auxRead 0xC#32 &&& 0xF06#32 = s.statusL2 &&& 0xF06#32 ∧
    s.auxRead 0x25#32 = s.intVectorBase ∧
    (∀ a : Word, 0x60 ≤ a.toNat → a.toNat ≤ 0x7F → s.auxRead a = Config.buildReg a) ∧
    (∀ a : Word, isExtAux s.cfg a = true → s.auxRead a = Config.extAuxView a (s.extAuxReg a)))

/-- SR completes, in both formats (45_aux_system.md R491): the register of the given number takes the data by its own rule. It
is stopped only on MULHI while a multiply may run (`HazardStops`) and on a loop bound at the end of a loop (`LoopSlotStops`).
What SR writes (10_state.md R39, R43 to R45, R49 to R51, R54): each writable auxiliary register by its own rule, and nothing for
every other number: the read-only registers, those that do not exist, and MULHI without the multiplier. An extension register
that exists takes the data by its own rule (log 7). The model's own choices in it: logs 7, 26, 27, 28, 30 and 55. -/
def Obligations.SrCompletes : Prop :=
  (∀ (form : SrForm) (s : State) (v a : Word),
    let x := srArgs form
    let bounds := a == 2#32 || a == 3#32
    s.NoHazard x.len none → s.LoopReady x.len false bounds →
    s.value1 x = .ok v → s.value x.len 1 x.src2 = .ok a →
    (a = 0x12#32 → s.cfg.hasMul64 = true → (s.afterReads x.sources).mulBusy = false) → s.srBarred x.len a = false →
    exec (.sr form) s = .next (s.ended x.len
      { wroteLoopBounds := bounds, wasSrStatusL := a == 0xB#32 || a == 0xC#32 } ((s.afterReads x.sources).auxWrite a v))) ∧
  (∀ (s : State) (a v : Word),
    s.auxWrite 0x1#32 v = { s with semCpu := v &&& ~~~s.semHost &&& semMask s.cfg } ∧
    s.auxWrite 0x2#32 v = { s with lpStart := v &&& 0xFFFFFFFE#32 } ∧
    s.auxWrite 0x3#32 v = { s with lpEnd := v &&& 0xFFFFFFFE#32 } ∧
    s.auxWrite 0xB#32 v = { s with statusL1 := v &&& 0xF06#32 } ∧
    s.auxWrite 0xC#32 v = { s with statusL2 := v &&& 0xF06#32 } ∧
    s.auxWrite 0x25#32 v = { s with intVectorBase := v &&& 0xFFFFFC00#32 } ∧
    (s.cfg.hasMul64 = true → (s.auxWrite 0x12#32 v).mulres.toNat = v.toNat * 2 ^ 32 + s.mulres.toNat % 2 ^ 32 ∧
      { s.auxWrite 0x12#32 v with mulres := s.mulres } = s) ∧
    (s.cfg.hasMul64 = false → s.auxWrite 0x12#32 v = s) ∧
    (a ∉ [0x1#32, 0x2#32, 0x3#32, 0xB#32, 0xC#32, 0x12#32, 0x25#32] → isExtAux s.cfg a = false → s.auxWrite a v = s) ∧
    (a ∈ [0x0#32, 0x4#32, 0x5#32, 0x6#32, 0xA#32] ∨ (0x60 ≤ a.toNat ∧ a.toNat ≤ 0x7F) → s.auxWrite a v = s) ∧
    (isExtAux s.cfg a = true → s.auxExt.length = s.cfg.extAux.length →
      (s.auxWrite a v).extAuxReg a = Config.extAuxTake a (s.extAuxReg a) v ∧ { s.auxWrite a v with auxExt := s.auxExt } = s ∧
      ∀ b, isExtAux s.cfg b = true → b ≠ a → (s.auxWrite a v).extAuxReg b = s.extAuxReg b))

/-- The semaphore protocol (10_state.md R43), bit by bit, on the processor's side and on the host's: writing 1 claims a bit that
the other side does not own, writing 0 releases an own one, the other side's bits stay, and a read gives 1 exactly for an own
bit. The model's own choices in it: log 28. -/
def Obligations.SemaphoreProtocol : Prop :=
  ∀ (s : State) (v f : Word) (i : Nat), i < s.cfg.semaphoreBits → i < 32 →
    ((s.auxWrite 0x1#32 v).semCpu.getLsbD i = (v.getLsbD i && !s.semHost.getLsbD i)) ∧
    (s.auxWrite 0x1#32 v).semHost = s.semHost ∧
    (s.auxRead 0x1#32).getLsbD i = s.semCpu.getLsbD i ∧
    ((s.hostWriteSemaphore v).semHost.getLsbD i = (v.getLsbD i && !s.semCpu.getLsbD i)) ∧
    (s.hostWriteSemaphore v).semCpu = s.semCpu ∧
    (s.hostReadSemaphore f).getLsbD i = s.semHost.getLsbD i ∧
    (State.reset.semCpu = 0#32 ∧ State.reset.semHost = 0#32)

/-- SWI takes its exception (45_aux_system.md R494): ILINK2 the address after it, STATUS32_L2 the status, both enables cleared,
the pc at vector 2; the loop mechanism does not act. SLEEP, BRK_S, NOP and NOP_S complete (R493, R495, R496): SLEEP sets ZZ, but
in a single step nothing; BRK_S halts where it stands; the NOPs do nothing but count down the shadow of a halting FLAG. The
clause on `draw`, the model's own counter of free values, is the choice of log 4, not a rule of the spec. The model's own
choices in it: logs 15 and 23. -/
def Obligations.SystemCompletes : Prop :=
  (∀ s : State, s.haltShadow = 0 → s.prevCmpBranch = false → s.delayTarget = none →
    exec .swi s = .next { s with
      regs := s.regs.setIfInBounds 30 (s.pc + 4#32)
      statusL2 := s.status32 &&& 0xF06#32
      e2 := false
      e1 := false
      pc := s.intVectorBase + 0x10#32
      prevDslot := false
      prevCmpBranch := false
      prevFlag := false
      prevSrStatusL := false
      draw := s.draw + 1 }) ∧
  (∀ s : State,
    let l : Len := ⟨false, false⟩
    (s.haltShadow = 0 → s.prevCmpBranch = false → s.LoopReady l false false →
      (s.singleStep = false → exec .sleep s = .next (s.ended l {} { s with zz := true })) ∧
      (s.singleStep = true → exec .sleep s = .next (s.ended l {} s))) ∧
    (s.haltShadow = 0 → s.delayTarget = none → exec .brk_s s = .next { s with bh := true, h := true }) ∧
    (s.LoopReady l false false → exec .nop s = .next (s.ended l {} { s with haltShadow := s.haltShadow - 1 })) ∧
    (s.LoopReady len16 false false → exec .nop_s s = .next (s.ended len16 {} { s with haltShadow := s.haltShadow - 1 })))

/-- The host's write of STATUS32 (60_exceptions.md R612): only H while the core runs; the whole register while it is halted; a
restart clears SH, BH and ZZ. The model's own choices in it: log 29. -/
def Obligations.HostStatusWrite : Prop :=
  ∀ (s : State) (v : Word),
    (s.h = false → s.hostWriteStatus32 v = { s with h := v.getLsbD 0 }) ∧
    (s.h = true → v.getLsbD 0 = true → s.hostWriteStatus32 v = { s with
      flags := ⟨v.getLsbD 11, v.getLsbD 10, v.getLsbD 9, v.getLsbD 8⟩
      e2 := v.getLsbD 2
      e1 := v.getLsbD 1 }) ∧
    (s.h = true → v.getLsbD 0 = false → s.hostWriteStatus32 v = { s with
      flags := ⟨v.getLsbD 11, v.getLsbD 10, v.getLsbD 9, v.getLsbD 8⟩
      e2 := v.getLsbD 2
      e1 := v.getLsbD 1
      h := false
      sh := false
      bh := false
      zz := false })

/-- Where instructions stop by name. Because of what came before: within three instructions of a halting FLAG, anything but NOP
(70_reset_and_hazards.md R656); in a delay slot, a long immediate, a control transfer (43_branch_jump_loop.md R373, R375), SWI
and BRK_S; directly after a compare-and-branch, SLEEP and SWI; directly after FLAG or an SR to a status save register, J.F
(R655); while a multiply may run, SR to MULHI (R645). Because of an operand: any instruction that reads r61 (10_state.md R26).
The model's own choices in it: logs 15, 20, 30, 32, 52 and 55. -/
def Obligations.HazardStops : Prop :=
  (∀ (i : Instr) (s : State), i ≠ .nop → i ≠ .nop_s → s.haltShadow ≠ 0 → exec i s = .refused .haltShadow) ∧
  (∀ (i : Instr) (s : State), i.hasLimm = true → present s.cfg i = true → s.haltShadow = 0 → s.prevDslot = true →
    exec i s = .refused .limmInDelaySlot) ∧
  (∀ (i : Instr) (s : State), i.hasLimm = false → s.haltShadow = 0 → s.prevDslot = true →
    (match i.shape with
      | .jump .. | .jumpD .. | .jumpF _ | .lp _ | .bcc .. | .bfar .. | .blcc .. | .bl .. | .br .. | .ctl16 _ => True
      | _ => False) →
    exec i s = .refused .branchInDelaySlot) ∧
  (∀ s : State, s.haltShadow = 0 → s.prevCmpBranch = true →
    exec .sleep s = .refused .afterCompareBranch ∧ exec .swi s = .refused .afterCompareBranch) ∧
  (∀ (s : State) (t : Word), s.haltShadow = 0 → s.delayTarget = some t →
    (s.prevCmpBranch = false → exec .swi s = .refused .swiInDelaySlot) ∧ exec .brk_s s = .refused .breakInDelaySlot) ∧
  (∀ (form : JFForm) (s : State), s.haltShadow = 0 → s.prevDslot = false → s.prevFlag = true ∨ s.prevSrStatusL = true →
    exec (.j_f form) s = .refused .returnTooSoon) ∧
  (∀ (form : SrForm) (s : State) (v : Word),
    let x := srArgs form
    s.NoHazard x.len none → s.value1 x = .ok v → s.value x.len 1 x.src2 = .ok 0x12#32 → s.cfg.hasMul64 = true →
    (s.afterReads x.sources).mulBusy = true → exec (.sr form) s = .refused .mulHiBusy) ∧
  (∀ (i : Instr) (limm : Word) (s : State), .reg 61#6 limm ∈ i.shape.sources → s.condMet i.shape.cond = true →
    present s.cfg i = true → s.haltShadow = 0 → (s.prevDslot = true → i.hasLimm = false) →
    (∀ x, i.shape.branchArgs = some x → s.prevDslot = false) →
    (∀ kind form, i.shape = .load kind form → ldDest form ≠ 60#6) → exec i s = .refused .reservedRegister)

/-! ### The whole machine -/

/-- Every step keeps a legal state legal (`State.Inv`), from every legal state, whatever the memory holds and whatever
interrupts request. The model's own choices in it: logs 1, 26 and 28. -/
def Obligations.InvariantKept : Prop :=
  ∀ s t : State, s.Inv → step s = .next t → t.Inv

/-- The state after reset is legal, with the default parameters and with any that are as the manual asks (00_scope.md R7). The
model's own choices in it: logs 2, 3, 5 and 33. -/
def Obligations.ResetIsLegal : Prop :=
  State.reset.Inv ∧ ∀ cfg : Config, cfg.wf = true → (State.resetWith cfg).Inv

/-- Reset with any parameters, as far as the manual states it (10_state.md R80, 70_reset_and_hazards.md R630): the pc and the
vector base at the value of the interrupt system, flags, enables, halt, the semaphores and the loop registers cleared, no load
pending and no delay slot; the core is running and its next step fetches at the pc. The reset of a running system gives the same
values, memory and parameters stay, and what it does not initialise takes values that nothing fixes. The model's own choices in
it: logs 33 and 36. -/
def Obligations.ResetValues : Prop :=
  (∀ cfg : Config,
    let s := State.resetWith cfg
    s.pc = cfg.intVectorBaseReset ∧ s.intVectorBase = cfg.intVectorBaseReset ∧ s.status32 = 0#32 ∧
    s.semCpu = 0#32 ∧ s.semHost = 0#32 ∧ s.lpCount = 0#32 ∧ s.lpStart = 0#32 ∧ s.lpEnd = 0#32 ∧
    (s.auxRead 0x5#32).getLsbD 31 = false ∧ s.delayTarget = none ∧ s.prevDslot = false ∧ step s = s.execAtPc) ∧
  (∀ s : State,
    let t := s.hardReset
    t.mem = s.mem ∧ t.cfg = s.cfg ∧ t.pending = s.pending ∧ t.pc = s.cfg.intVectorBaseReset ∧
    t.intVectorBase = s.cfg.intVectorBaseReset ∧ t.status32 = 0#32 ∧ t.semCpu = 0#32 ∧ t.semHost = 0#32 ∧
    t.lpCount = 0#32 ∧ t.lpStart = 0#32 ∧ t.lpEnd = 0#32 ∧ t.delayTarget = none ∧
    (s.mem.wf = true → s.cfg.wf = true → t.Inv))

/-- What no instruction writes (10_state.md R43, R63): the parameters, the host's semaphore bits, the interrupt requests, the
single-step flag. The special registers change only where the rules say so: LP_START and LP_END by LP and SR; INT_VECTOR_BASE,
STATUS32_L1 and the processor's semaphore bits by SR; the multiply result by the multiplies and SR; SH by FLAG; BH by BRK_S; ZZ
by SLEEP (R38 to R54); STATUS32_L2 also at an exception. LP_COUNT (R25), away from the end of a loop, is left by an instruction
that does not name r60 as a destination or a written base and is no branch or jump. The clause on `draw`, the model's own
counter of free values, is the choice of log 4, not a rule of the spec. That the extension auxiliary registers change by SR
alone (the clause on `auxExt`) is the choice of log 7, not a rule of the spec: 00_scope.md R4 (c) leaves these registers to the
implementation. -/
def Obligations.SpecialRegisterFrame : Prop :=
  (∀ (i : Instr) (s t : State), exec i s = .next t →
    t.cfg = s.cfg ∧ t.semHost = s.semHost ∧ t.pending = s.pending ∧ t.singleStep = s.singleStep ∧
    (t.draw = s.draw + 1 ∨ i = .brk_s)) ∧
  (∀ (i : Instr) (s t : State), exec i s = .next t →
    let isSr := ∃ form, i.shape = .sr form
    (t.lpStart ≠ s.lpStart → isSr ∨ ∃ form, i.shape = .lp form) ∧
    (t.lpEnd ≠ s.lpEnd → isSr ∨ ∃ form, i.shape = .lp form) ∧
    (t.intVectorBase ≠ s.intVectorBase → isSr) ∧ (isSr ∨ t.auxExt = s.auxExt) ∧ (t.statusL1 ≠ s.statusL1 → isSr) ∧ (t.semCpu ≠ s.semCpu → isSr) ∧
    (t.statusL2 ≠ s.statusL2 → isSr ∨ t.statusL2 = s.status32 &&& 0xF06#32 ∧ t.e1 = false ∧ t.e2 = false) ∧
    (t.mulres ≠ s.mulres → isSr ∨ (∃ sgn form, i.shape = .mul sgn form) ∨ ∃ b c, i.shape = .mul16 b c) ∧
    (t.sh ≠ s.sh → ∃ form, i.shape = .flag form) ∧ (t.bh ≠ s.bh → i = .brk_s) ∧ (t.zz ≠ s.zz → i = .sleep)) ∧
  (∀ (i : Instr) (s t : State), exec i s = .next t → s.pc + BitVec.ofNat 32 i.length ≠ s.lpEnd → 60 ∉ i.shape.destRegs →
    (match i.shape with
      | .jump .. | .jumpD .. | .jumpF _ | .bcc .. | .bfar .. | .blcc .. | .bl .. | .br .. | .ctl16 _ => False
      | _ => True) →
    t.lpCount = s.lpCount)

/-- Memory, byte by byte. Every instruction that is not a store leaves all of it. A store changes at most the bytes of its
access: those at the address `effAddr` gives for its base and offset, read in the state the store starts in, or at the sum of
base and offset of the 16-bit form; what they hold is in `StoreCompletes` and `Store16Completes`. -/
def Obligations.MemoryFrame : Prop :=
  (∀ (i : Instr) (s t : State), i.shape.stores = false → exec i s = .next t → ∀ a : Word, t.readByte a = s.readByte a) ∧
  (∀ (s t : State), s.mem.wf = true →
    (∀ (sz : Size) (r b : Reg) (d : BitVec 9) (aa : BitVec 2) (di : Bool) (limm base x : Word),
      s.readCore ⟨false, b == 62#6 || r == 62#6⟩ 0 b limm = .ok base →
      exec (Instr.ofShape (.store sz r b d aa di limm)) s = .next t →
      ¬ inAccess (effAddr sz base (d.signExtend 32) aa).1 sz x → t.readByte x = s.readByte x) ∧
    (∀ (b c : Reg3) (u : BitVec 5) (x : Word),
      let at4 := s.reg (reg16 b).toNat + 4 * u.setWidth 32
      let at1 := s.reg (reg16 b).toNat + u.setWidth 32
      let at2 := s.reg (reg16 b).toNat + 2 * u.setWidth 32
      let sp := s.reg 28 + 4 * u.setWidth 32
      (exec (.st_s_cbu7 c b u) s = .next t → ¬ inAccess at4 .long x → t.readByte x = s.readByte x) ∧
      (exec (.stb_s_cbu5 c b u) s = .next t → ¬ inAccess at1 .byte x → t.readByte x = s.readByte x) ∧
      (exec (.stw_s_cbu6 c b u) s = .next t → ¬ inAccess at2 .half x → t.readByte x = s.readByte x) ∧
      (exec (.st_s_bspu7 b u) s = .next t → ¬ inAccess sp .long x → t.readByte x = s.readByte x) ∧
      (exec (.stb_s_bspu7 b u) s = .next t → ¬ inAccess sp .byte x → t.readByte x = s.readByte x) ∧
      (exec (.push_s_b b) s = .next t → ¬ inAccess (s.reg 28 - 4#32) .long x → t.readByte x = s.readByte x) ∧
      (exec .push_s_blink s = .next t → ¬ inAccess (s.reg 28 - 4#32) .long x → t.readByte x = s.readByte x)))

/-- Core registers r0 to r56 (r57 to r59 are the multiply result): an instruction changes none but those it names as
destination, the base it writes back, SP in PUSH_S and POP_S, BLINK in a linking form (`Shape.destRegs`), and ILINK2 when it
takes an exception (vector 1 or 2, level 2). For r0 to r31 this is R31 and R575; that the extension core registers r32 to r56
stay unless they are named is the choice of log 49 (each reads as last written), not a rule of the spec. The model's own choices
in it: log 49. -/
def Obligations.CoreRegisterFrame : Prop :=
  ∀ (i : Instr) (s t : State) (n : Nat), exec i s = .next t → n ∉ i.shape.destRegs → t.reg n ≠ s.reg n →
    n = 30 ∧ (t.pc = s.intVectorBase + 8#32 ∨ t.pc = s.intVectorBase + 16#32) ∧ t.e1 = false ∧ t.e2 = false ∧
      t.statusL2 = s.status32 &&& 0xF06#32

/-- The flags: Z, N, C, V change only in an instruction that sets flags (10_state.md R35): F = 1, the comparisons and tests,
FLAG, J.F. C and V stay in AND, OR, BIC, XOR, BSET, BCLR, BXOR, BMSK, TST, BTST and the 16-bit TST_S and BTST_S, in MOV, SEXB,
SEXW, EXTB, EXTW, NOT, SWAP, NORM and NORMW (41_logic_move_bit.md R280, 46_extensions.md R545 to R547). V stays also in the
multi-bit ASL, LSR, ASR, ROR and in ASR, LSR, ROR, RRC by one (42_shift_rotate.md R332 to R335, R340 to R343); ASL by one writes
V (R331) and RLC leaves it undefined (R336). -/
def Obligations.FlagFrame : Prop :=
  (∀ (i : Instr) (s t : State), exec i s = .next t → i.shape.setsFlags = false → t.flags = s.flags) ∧
  (∀ (i : Instr) (s t : State), exec i s = .next t →
    (match i.shape with
      | .alu op _ => op ∈ [AluOp.and, .or, .bic, .xor, .bset, .bclr, .bxor, .bmsk]
      | .test op _ => op = .tst ∨ op = .btst
      | .mov _ => True
      | .data16 (.tst _ _) => True
      | .data16 (.btst _ _) => True
      | .sop op _ => op ∈ [SopOp.sexb, .sexw, .extb, .extw, .not, .swap, .norm, .normw]
      | _ => False) →
    t.flags.c = s.flags.c ∧ t.flags.v = s.flags.v) ∧
  (∀ (i : Instr) (s t : State), exec i s = .next t →
    (match i.shape with
      | .alu op _ => op ∈ [AluOp.asl, .lsr, .asr, .ror]
      | .sop op _ => op ∈ [SopOp.asr, .lsr, .ror, .rrc]
      | _ => False) →
    t.flags.v = s.flags.v)

/-- Who changes the halt bit and the interrupt enables (10_state.md R34, 60_exceptions.md R581): H goes up by FLAG and BRK_S
alone and never comes down by an instruction; E1 and E2 go up by FLAG and J.F alone, and come down by those or at an exception.
-/
def Obligations.HaltAndEnables : Prop :=
  ∀ (i : Instr) (s t : State), exec i s = .next t →
    (s.h = true → t.h = true) ∧
    (s.h = false → t.h = true → (∃ form, i.shape = .flag form) ∨ i = .brk_s) ∧
    ((s.e1 = false ∧ t.e1 = true) ∨ (s.e2 = false ∧ t.e2 = true) →
      (∃ form, i.shape = .flag form) ∨ ∃ form, i.shape = .jumpF form) ∧
    ((∀ form, i.shape ≠ .flag form) → (∀ form, i.shape ≠ .jumpF form) → (t.e1 ≠ s.e1 ∨ t.e2 ≠ s.e2) →
      t.e1 = false ∧ t.e2 = false ∧ (t.pc = s.intVectorBase + 8#32 ∨ t.pc = s.intVectorBase + 16#32))
end

