-- ==== Sys2Proof/Laws/Shape.lean ====
section
/-! SUPPORT. `Instr.shape` and `Instr.ofShape` are inverse to each other: no constructor is lost and none is shared. -/

namespace Sys2Proof

theorem Instr.ofShape_shape (i : Instr) : Instr.ofShape i.shape = i := by
  cases i <;> rfl

theorem Instr.shape_ofShape (v : Shape) : (Instr.ofShape v).shape = v := by
  cases v with
  | alu op form => cases op <;> rfl
  | test op form => cases op <;> rfl
  | mul sgn form => cases sgn <;> rfl
  | sop op form => cases op <;> rfl
  | jump link form => cases link <;> rfl
  | jumpD link form => cases link <;> rfl
  | load kind form => cases kind <;> rfl
  | store sz => cases sz <;> rfl
  | br op form => cases op <;> rfl
  | load16 form =>
    cases form with
    | abc sz => cases sz <;> rfl
    | cbu sz => cases sz <;> rfl
    | sp byte => cases byte <;> rfl
    | gp sz => cases sz <;> rfl
    | _ => rfl
  | store16 form =>
    cases form with
    | cbu sz => cases sz <;> rfl
    | sp byte => cases byte <;> rfl
    | _ => rfl
  | data16 form =>
    cases form with
    | cbu3 op => cases op <;> rfl
    | bbc op => cases op <;> rfl
    | bc op => cases op <;> rfl
    | bbu5 op => cases op <;> rfl
    | adjSp sub => cases sub <;> rfl
    | _ => rfl
  | ctl16 form =>
    cases form with
    | j link d => cases link <;> cases d <;> rfl
    | jBlink d => cases d <;> rfl
    | jCond ne => cases ne <;> rfl
    | br ne => cases ne <;> rfl
    | b cond => cases cond <;> rfl
    | bcc cond => cases cond <;> rfl
    | bl => rfl
  | _ => rfl

end Sys2Proof
end

