-- ==== Sys2Proof/Laws/Exec.lean ====
section
/-! SUPPORT. Every instruction runs one of the shared meanings of Machine/Meaning.lean, on the operands of its format:
`exec_eq_run` replaces the dispatch over 171 instructions by a match over the formats. -/

namespace Sys2Proof

open Machine

/-- The operation of a 16-bit data instruction. -/
def Data16.op : Data16 → DataOp
  | .addAbc .. => .alu .add
  | .cbu3 .add .. => .alu .add
  | .cbu3 .sub .. => .alu .sub
  | .cbu3 .asl .. => .alu .asl
  | .cbu3 .asr .. => .alu .asr
  | .addBbh .. => .alu .add
  | .movBh .. => .mov
  | .cmpBh .. => .test .cmp
  | .movHb .. => .mov
  | .bbc .sub .. => .alu .sub
  | .bbc .and .. => .alu .and
  | .bbc .or .. => .alu .or
  | .bbc .bic .. => .alu .bic
  | .bbc .xor .. => .alu .xor
  | .bbc .add1 .. => .alu .add1
  | .bbc .add2 .. => .alu .add2
  | .bbc .add3 .. => .alu .add3
  | .bbc .asl .. => .alu .asl
  | .bbc .lsr .. => .alu .lsr
  | .bbc .asr .. => .alu .asr
  | .tst .. => .test .tst
  | .bc .sexb .. => .sop .sexb
  | .bc .sexw .. => .sop .sexw
  | .bc .extb .. => .sop .extb
  | .bc .extw .. => .sop .extw
  | .bc .abs .. => .sop .abs
  | .bc .not .. => .sop .not
  | .bc .neg .. => .alu .sub
  | .bc .asl .. => .sop .asl
  | .bc .asr .. => .sop .asr
  | .bc .lsr .. => .sop .lsr
  | .bbu5 .asl .. => .alu .asl
  | .bbu5 .lsr .. => .alu .lsr
  | .bbu5 .asr .. => .alu .asr
  | .bbu5 .sub .. => .alu .sub
  | .bbu5 .bset .. => .alu .bset
  | .bbu5 .bclr .. => .alu .bclr
  | .bbu5 .bmsk .. => .alu .bmsk
  | .btst .. => .test .btst
  | .addSp .. => .alu .add
  | .adjSp sub _ => .alu (bif sub then .sub else .add)
  | .addGp _ => .alu .add
  | .movU8 .. => .mov
  | .addU7 .. => .alu .add
  | .cmpU7 .. => .test .cmp
  | .subNe _ => .mov

/-- Whether a 16-bit load sign-extends. -/
def Ld16.signed : Ld16 → Bool
  | .cbuX .. => true
  | .abc .. | .cbu .. | .sp .. | .gp .. | .pcl .. | .pop _ | .popBlink => false

/-- The destination of a 16-bit load. -/
def Ld16.dest : Ld16 → Reg
  | .abc _ a _ _ => reg16 a
  | .cbu _ c _ _ => reg16 c
  | .cbuX c _ _ => reg16 c
  | .sp _ b _ => reg16 b
  | .gp _ _ => 0#6
  | .pcl b _ => reg16 b
  | .pop b => reg16 b
  | .popBlink => rBLINK

/-- The meaning of a format. -/
def Shape.run (v : Shape) (s : State) : Result :=
  match v with
  | .alu op form => runData (.alu op) (genArgs form) s
  | .test op form => runData (.test op) (cmpArgs form) s
  | .mul sgn form => runMul sgn (cmpArgs form) s
  | .mov form => runData .mov (movArgs form) s
  | .nop => runNop ⟨false, false⟩ s
  | .sop op form => runData (.sop op) (sopArgs form) s
  | .jump link form => runBranch (jumpArgs link (jArgs form)) s
  | .jumpD link form => runBranch (jumpDArgs link (jdArgs form)) s
  | .jumpF form => runReturn form s
  | .lp form => runLp form s
  | .flag form => runFlag (jArgs form) s
  | .lr form => runLr (lrArgs form) s
  | .sr form => runSr (srArgs form) s
  | .sleep => runSleep ⟨false, false⟩ s
  | .swi => runSwi ⟨false, false⟩ s
  | .load kind form => runLoad (ldSigned kind) (ldDest form) (ldArgs (ldSize kind) form) s
  | .store sz c b d aa _ limm => runStore (.reg c limm) (stArgs sz c b d aa limm) s
  | .bcc d n q => runBranch (relArgs (some q) (simm d 1) false n ⟨false, false⟩) s
  | .bfar d n => runBranch (relArgs none (simm d 1) false n ⟨false, false⟩) s
  | .blcc d n q => runBranch (relArgs (some q) (simm d 2) true n ⟨false, false⟩) s
  | .bl d n => runBranch (relArgs none (simm d 2) true n ⟨false, false⟩) s
  | .br op form => runBranch (brArgs op form) s
  | .load16 form => runLoad form.signed form.dest form.args s
  | .store16 form => runStore form.data form.args s
  | .data16 form => runData form.op form.args s
  | .mul16 b c => runMul true ⟨false, none, some (op16 b), op16 c, none, len16⟩ s
  | .ctl16 form => runBranch form.args s
  | .nop16 => runNop len16 s
  | .brk => runBreak len16 s

/-- Dispatch is the meaning of the format. -/
theorem exec_eq_run (i : Instr) (s : State) : exec i s = i.shape.run s := by
  cases i <;> rfl

/-- The same, from the format. -/
theorem exec_ofShape (v : Shape) (s : State) : exec (Instr.ofShape v) s = v.run s := by
  rw [exec_eq_run, Instr.shape_ofShape]

end Sys2Proof
end

