-- ==== Sys2Proof/Laws/Memory.lean ====
section
/-! SUPPORT. Memory: a read after a write, other addresses, and the canonical form, for the byte operations and for `writeData`. -/

namespace Sys2Proof.Machine

/-! ### Reading after writing a byte -/

/-- Below its first address, a memory in canonical form reads as unlisted. -/
theorem readCell_of_lt {m : Memory} {a : Nat} (h : ∀ x ∈ m, a < x.1) : readCell m a = unlistedByte := by
  induction m with
  | nil => rfl
  | cons x m ih =>
    obtain ⟨k, b⟩ := x
    have hk : a < k := h (k, b) (by simp)
    have : (k == a) = false := by simp; omega
    simp only [readCell, this, cond_false]
    exact ih fun y hy => h y (by simp [hy])

/-- What is read after a write, in a memory with rising addresses: the byte written, or what was there before. -/
theorem readCell_writeCell {m : Memory} (hm : m.Pairwise fun x y => x.1 < y.1) (a : Nat) (b : Byte) (x : Nat) :
    readCell (writeCell m a b) x = if x = a then b else readCell m x := by
  induction m with
  | nil =>
    by_cases hb : b = unlistedByte
    · subst hb
      by_cases hx : x = a <;> simp [writeCell, readCell, cond_eq_ite]
    · by_cases hx : x = a
      · simp [writeCell, readCell, cond_eq_ite, hb, hx]
      · have : (a == x) = false := by simp; omega
        simp [writeCell, readCell, cond_eq_ite, hb, hx, this]
  | cons y m ih =>
    obtain ⟨k, c⟩ := y
    rw [List.pairwise_cons] at hm
    have ih := ih hm.2
    by_cases h1 : k < a
    · have hk : x = a → k ≠ x := by omega
      simp only [writeCell, h1, decide_true, cond_true, readCell]
      by_cases h2 : k = x
      · subst h2
        have : ¬ k = a := by omega
        simp [this]
      · have h3 : (k == x) = false := by simpa using h2
        simp only [h3, cond_false, ih]
    · by_cases h2 : k = a
      · subst h2
        have hr : readCell m k = unlistedByte := readCell_of_lt fun z hz => hm.1 z hz
        by_cases hb : b = unlistedByte
        · subst hb
          by_cases hx : x = k
          · subst hx
            simp [writeCell, cond_eq_ite, hr]
          · have h3 : (k == x) = false := by simp; omega
            simp [writeCell, readCell, cond_eq_ite, hx, h3]
        · by_cases hx : x = k
          · subst hx
            simp [writeCell, readCell, cond_eq_ite, hb]
          · have h3 : (k == x) = false := by simp; omega
            simp [writeCell, readCell, cond_eq_ite, hb, hx, h3]
      · have h3 : (k == a) = false := by simpa using h2
        by_cases hb : b = unlistedByte
        · subst hb
          by_cases hx : x = a
          · subst hx
            have hr : readCell m x = unlistedByte := readCell_of_lt fun z hz => by have := hm.1 z hz; simp only at this; omega
            simp [writeCell, readCell, cond_eq_ite, h1, h3, hr]
          · simp [writeCell, cond_eq_ite, h1, h3, hx]
        · by_cases hx : x = a
          · subst hx
            simp [writeCell, readCell, cond_eq_ite, h1, h3, hb]
          · have h4 : (a == x) = false := by simp; omega
            simp [writeCell, readCell, cond_eq_ite, h1, h3, hb, hx, h4]

/-! ### The canonical form -/

/-- The canonical form, as a proposition. -/
theorem Memory.wf_iff (m : Memory) :
    Memory.wf m = true ↔ (m.Pairwise fun x y => x.1 < y.1) ∧ ∀ x ∈ m, x.1 < 2 ^ 32 ∧ x.2 ≠ unlistedByte := by
  simp [Memory.wf]

/-- A cell of the memory after a write is a cell of the memory before it, or the one written. -/
theorem mem_writeCell {m : Memory} {a : Nat} {b : Byte} {x : Host.Cell} (h : x ∈ writeCell m a b) :
    x ∈ m ∨ (x = (a, b) ∧ b ≠ unlistedByte) := by
  induction m with
  | nil =>
    by_cases hb : b = unlistedByte
    · simp [writeCell, cond_eq_ite, hb] at h
    · simp [writeCell, cond_eq_ite, hb] at h
      exact .inr ⟨h, hb⟩
  | cons y m ih =>
    obtain ⟨k, c⟩ := y
    by_cases h1 : k < a
    · simp [writeCell, cond_eq_ite, h1] at h
      rcases h with h | h
      · simp [h]
      · rcases ih h with h | h
        · simp [h]
        · exact .inr h
    · by_cases h2 : k = a
      · by_cases hb : b = unlistedByte
        · simp [writeCell, cond_eq_ite, h2, hb] at h
          simp [h]
        · simp [writeCell, cond_eq_ite, h2, hb] at h
          rcases h with h | h
          · exact .inr ⟨h, hb⟩
          · simp [h]
      · by_cases hb : b = unlistedByte
        · simp [writeCell, cond_eq_ite, h1, h2, hb] at h
          rcases h with h | h <;> simp [h]
        · simp [writeCell, cond_eq_ite, h1, h2, hb] at h
          rcases h with h | h | h
          · exact .inr ⟨h, hb⟩
          · simp [h]
          · simp [h]

/-- A write keeps the addresses rising. -/
theorem pairwise_writeCell {m : Memory} (hm : m.Pairwise fun x y => x.1 < y.1) (a : Nat) (b : Byte) :
    (writeCell m a b).Pairwise fun x y => x.1 < y.1 := by
  induction m with
  | nil => by_cases hb : b = unlistedByte <;> simp [writeCell, cond_eq_ite, hb]
  | cons y m ih =>
    obtain ⟨k, c⟩ := y
    rw [List.pairwise_cons] at hm
    by_cases h1 : k < a
    · simp only [writeCell, h1, decide_true, cond_true, List.pairwise_cons]
      refine ⟨fun x hx => ?_, ih hm.2⟩
      rcases mem_writeCell hx with h | ⟨h, -⟩
      · exact hm.1 x h
      · simpa [h] using h1
    · by_cases h2 : k = a
      · by_cases hb : b = unlistedByte
        · simpa [writeCell, cond_eq_ite, h2, hb] using hm.2
        · simp [writeCell, cond_eq_ite, h2, hb]
          exact ⟨fun x y hx => by have := hm.1 (x, y) hx; simp only at this; omega, hm.2⟩
      · by_cases hb : b = unlistedByte
        · simp [writeCell, cond_eq_ite, h1, h2, hb]
          exact ⟨fun x y hx => hm.1 (x, y) hx, hm.2⟩
        · simp [writeCell, cond_eq_ite, h1, h2, hb]
          refine ⟨⟨by omega, fun x y hx => ?_⟩, fun x y hx => hm.1 (x, y) hx, hm.2⟩
          have := hm.1 (x, y) hx
          simp only at this
          omega

/-- A write below 2^32 keeps the canonical form. -/
theorem wf_writeCell {m : Memory} (hm : Memory.wf m = true) {a : Nat} (ha : a < 2 ^ 32) (b : Byte) :
    Memory.wf (writeCell m a b) = true := by
  rw [Memory.wf_iff] at hm ⊢
  refine ⟨pairwise_writeCell hm.1 a b, fun x hx => ?_⟩
  rcases mem_writeCell hx with h | ⟨h, hb⟩
  · exact hm.2 x h
  · simpa [h] using ⟨ha, hb⟩

/-! ### The operations of the state -/

/-- A byte read after a byte was written. -/
theorem readByte_writeByte {s : State} (hs : s.mem.wf = true) (a : Word) (b : Byte) (x : Word) :
    (s.writeByte a b).readByte x = if x = a then b else s.readByte x := by
  have := readCell_writeCell ((Memory.wf_iff _).1 hs).1 a.toNat b x.toNat
  simpa [State.readByte, State.writeByte, BitVec.toNat_inj] using this

/-- A byte write keeps the canonical form. -/
theorem wf_writeByte {s : State} (hs : s.mem.wf = true) (a : Word) (b : Byte) : (s.writeByte a b).mem.wf = true :=
  wf_writeCell hs a.isLt b

/-- A data write keeps the canonical form. -/
theorem wf_writeData {s : State} (hs : s.mem.wf = true) (sz : Size) (a v : Word) : (s.writeData sz a v).mem.wf = true := by
  cases sz <;> simp only [State.writeData] <;> repeat' apply wf_writeByte
  all_goals exact hs

/-- Placing instructions keeps the canonical form. -/
theorem wf_placeHalves {s : State} (hs : s.mem.wf = true) (a : Word) (hs' : List Half) :
    (s.placeHalves a hs').mem.wf = true := by
  induction hs' generalizing s a with
  | nil => exact hs
  | cons h t ih => exact ih (wf_writeByte (wf_writeByte hs _ _) _ _) _

/-- Memory after reset is in canonical form. -/
theorem wf_resetWith (cfg : Config) : (State.resetWith cfg).mem.wf = true := rfl

/-- The host's write of memory keeps the canonical form. -/
theorem wf_withFetchWord {s : State} (hs : s.mem.wf = true) (nbits w : Nat) : (s.withFetchWord nbits w).mem.wf = true :=
  wf_placeHalves hs _ _

end Sys2Proof.Machine
end

