-- ==== Sys2Proof/Laws/State.lean ====
section
/-! SUPPORT. One lemma per field per update: what each named update of the state does to each field. -/

namespace Sys2Proof.Machine

/-! ### setReg -/

@[simp] theorem setReg_regs (s : State) (n : Nat) (v : Word) : (s.setReg n v).regs = s.regs.setIfInBounds n v := rfl
@[simp] theorem setReg_lpCount (s : State) (n : Nat) (v : Word) : (s.setReg n v).lpCount = s.lpCount := rfl
@[simp] theorem setReg_mulres (s : State) (n : Nat) (v : Word) : (s.setReg n v).mulres = s.mulres := rfl
@[simp] theorem setReg_pc (s : State) (n : Nat) (v : Word) : (s.setReg n v).pc = s.pc := rfl
@[simp] theorem setReg_flags (s : State) (n : Nat) (v : Word) : (s.setReg n v).flags = s.flags := rfl
@[simp] theorem setReg_e1 (s : State) (n : Nat) (v : Word) : (s.setReg n v).e1 = s.e1 := rfl
@[simp] theorem setReg_e2 (s : State) (n : Nat) (v : Word) : (s.setReg n v).e2 = s.e2 := rfl
@[simp] theorem setReg_h (s : State) (n : Nat) (v : Word) : (s.setReg n v).h = s.h := rfl
@[simp] theorem setReg_statusL1 (s : State) (n : Nat) (v : Word) : (s.setReg n v).statusL1 = s.statusL1 := rfl
@[simp] theorem setReg_statusL2 (s : State) (n : Nat) (v : Word) : (s.setReg n v).statusL2 = s.statusL2 := rfl
@[simp] theorem setReg_semCpu (s : State) (n : Nat) (v : Word) : (s.setReg n v).semCpu = s.semCpu := rfl
@[simp] theorem setReg_semHost (s : State) (n : Nat) (v : Word) : (s.setReg n v).semHost = s.semHost := rfl
@[simp] theorem setReg_lpStart (s : State) (n : Nat) (v : Word) : (s.setReg n v).lpStart = s.lpStart := rfl
@[simp] theorem setReg_lpEnd (s : State) (n : Nat) (v : Word) : (s.setReg n v).lpEnd = s.lpEnd := rfl
@[simp] theorem setReg_intVectorBase (s : State) (n : Nat) (v : Word) : (s.setReg n v).intVectorBase = s.intVectorBase := rfl
@[simp] theorem setReg_auxExt (s : State) (n : Nat) (v : Word) : (s.setReg n v).auxExt = s.auxExt := rfl
@[simp] theorem setReg_sh (s : State) (n : Nat) (v : Word) : (s.setReg n v).sh = s.sh := rfl
@[simp] theorem setReg_bh (s : State) (n : Nat) (v : Word) : (s.setReg n v).bh = s.bh := rfl
@[simp] theorem setReg_zz (s : State) (n : Nat) (v : Word) : (s.setReg n v).zz = s.zz := rfl
@[simp] theorem setReg_loadSeen (s : State) (n : Nat) (v : Word) : (s.setReg n v).loadSeen = s.loadSeen := rfl
@[simp] theorem setReg_delayTarget (s : State) (n : Nat) (v : Word) : (s.setReg n v).delayTarget = s.delayTarget := rfl
@[simp] theorem setReg_prevDslot (s : State) (n : Nat) (v : Word) : (s.setReg n v).prevDslot = s.prevDslot := rfl
@[simp] theorem setReg_prevCmpBranch (s : State) (n : Nat) (v : Word) : (s.setReg n v).prevCmpBranch = s.prevCmpBranch := rfl
@[simp] theorem setReg_prevFlag (s : State) (n : Nat) (v : Word) : (s.setReg n v).prevFlag = s.prevFlag := rfl
@[simp] theorem setReg_prevSrStatusL (s : State) (n : Nat) (v : Word) : (s.setReg n v).prevSrStatusL = s.prevSrStatusL := rfl
@[simp] theorem setReg_haltShadow (s : State) (n : Nat) (v : Word) : (s.setReg n v).haltShadow = s.haltShadow := rfl
@[simp] theorem setReg_lpcAge (s : State) (n : Nat) (v : Word) : (s.setReg n v).lpcAge = s.lpcAge := rfl
@[simp] theorem setReg_lpseAge (s : State) (n : Nat) (v : Word) : (s.setReg n v).lpseAge = s.lpseAge := rfl
@[simp] theorem setReg_mulBusy (s : State) (n : Nat) (v : Word) : (s.setReg n v).mulBusy = s.mulBusy := rfl
@[simp] theorem setReg_singleStep (s : State) (n : Nat) (v : Word) : (s.setReg n v).singleStep = s.singleStep := rfl
@[simp] theorem setReg_pending (s : State) (n : Nat) (v : Word) : (s.setReg n v).pending = s.pending := rfl
@[simp] theorem setReg_draw (s : State) (n : Nat) (v : Word) : (s.setReg n v).draw = s.draw := rfl
@[simp] theorem setReg_mem (s : State) (n : Nat) (v : Word) : (s.setReg n v).mem = s.mem := rfl
@[simp] theorem setReg_cfg (s : State) (n : Nat) (v : Word) : (s.setReg n v).cfg = s.cfg := rfl

/-! ### writeByte -/

@[simp] theorem writeByte_regs (s : State) (a : Word) (b : Byte) : (s.writeByte a b).regs = s.regs := rfl
@[simp] theorem writeByte_lpCount (s : State) (a : Word) (b : Byte) : (s.writeByte a b).lpCount = s.lpCount := rfl
@[simp] theorem writeByte_mulres (s : State) (a : Word) (b : Byte) : (s.writeByte a b).mulres = s.mulres := rfl
@[simp] theorem writeByte_pc (s : State) (a : Word) (b : Byte) : (s.writeByte a b).pc = s.pc := rfl
@[simp] theorem writeByte_flags (s : State) (a : Word) (b : Byte) : (s.writeByte a b).flags = s.flags := rfl
@[simp] theorem writeByte_e1 (s : State) (a : Word) (b : Byte) : (s.writeByte a b).e1 = s.e1 := rfl
@[simp] theorem writeByte_e2 (s : State) (a : Word) (b : Byte) : (s.writeByte a b).e2 = s.e2 := rfl
@[simp] theorem writeByte_h (s : State) (a : Word) (b : Byte) : (s.writeByte a b).h = s.h := rfl
@[simp] theorem writeByte_statusL1 (s : State) (a : Word) (b : Byte) : (s.writeByte a b).statusL1 = s.statusL1 := rfl
@[simp] theorem writeByte_statusL2 (s : State) (a : Word) (b : Byte) : (s.writeByte a b).statusL2 = s.statusL2 := rfl
@[simp] theorem writeByte_semCpu (s : State) (a : Word) (b : Byte) : (s.writeByte a b).semCpu = s.semCpu := rfl
@[simp] theorem writeByte_semHost (s : State) (a : Word) (b : Byte) : (s.writeByte a b).semHost = s.semHost := rfl
@[simp] theorem writeByte_lpStart (s : State) (a : Word) (b : Byte) : (s.writeByte a b).lpStart = s.lpStart := rfl
@[simp] theorem writeByte_lpEnd (s : State) (a : Word) (b : Byte) : (s.writeByte a b).lpEnd = s.lpEnd := rfl
@[simp] theorem writeByte_intVectorBase (s : State) (a : Word) (b : Byte) : (s.writeByte a b).intVectorBase = s.intVectorBase := rfl
@[simp] theorem writeByte_auxExt (s : State) (a : Word) (b : Byte) : (s.writeByte a b).auxExt = s.auxExt := rfl
@[simp] theorem writeByte_sh (s : State) (a : Word) (b : Byte) : (s.writeByte a b).sh = s.sh := rfl
@[simp] theorem writeByte_bh (s : State) (a : Word) (b : Byte) : (s.writeByte a b).bh = s.bh := rfl
@[simp] theorem writeByte_zz (s : State) (a : Word) (b : Byte) : (s.writeByte a b).zz = s.zz := rfl
@[simp] theorem writeByte_loadSeen (s : State) (a : Word) (b : Byte) : (s.writeByte a b).loadSeen = s.loadSeen := rfl
@[simp] theorem writeByte_delayTarget (s : State) (a : Word) (b : Byte) : (s.writeByte a b).delayTarget = s.delayTarget := rfl
@[simp] theorem writeByte_prevDslot (s : State) (a : Word) (b : Byte) : (s.writeByte a b).prevDslot = s.prevDslot := rfl
@[simp] theorem writeByte_prevCmpBranch (s : State) (a : Word) (b : Byte) : (s.writeByte a b).prevCmpBranch = s.prevCmpBranch := rfl
@[simp] theorem writeByte_prevFlag (s : State) (a : Word) (b : Byte) : (s.writeByte a b).prevFlag = s.prevFlag := rfl
@[simp] theorem writeByte_prevSrStatusL (s : State) (a : Word) (b : Byte) : (s.writeByte a b).prevSrStatusL = s.prevSrStatusL := rfl
@[simp] theorem writeByte_haltShadow (s : State) (a : Word) (b : Byte) : (s.writeByte a b).haltShadow = s.haltShadow := rfl
@[simp] theorem writeByte_lpcAge (s : State) (a : Word) (b : Byte) : (s.writeByte a b).lpcAge = s.lpcAge := rfl
@[simp] theorem writeByte_lpseAge (s : State) (a : Word) (b : Byte) : (s.writeByte a b).lpseAge = s.lpseAge := rfl
@[simp] theorem writeByte_mulBusy (s : State) (a : Word) (b : Byte) : (s.writeByte a b).mulBusy = s.mulBusy := rfl
@[simp] theorem writeByte_singleStep (s : State) (a : Word) (b : Byte) : (s.writeByte a b).singleStep = s.singleStep := rfl
@[simp] theorem writeByte_pending (s : State) (a : Word) (b : Byte) : (s.writeByte a b).pending = s.pending := rfl
@[simp] theorem writeByte_draw (s : State) (a : Word) (b : Byte) : (s.writeByte a b).draw = s.draw := rfl
@[simp] theorem writeByte_mem (s : State) (a : Word) (b : Byte) : (s.writeByte a b).mem = writeCell s.mem a.toNat b := rfl
@[simp] theorem writeByte_cfg (s : State) (a : Word) (b : Byte) : (s.writeByte a b).cfg = s.cfg := rfl

/-! ### setStatus -/

@[simp] theorem setStatus_regs (s : State) (v : Word) : (s.setStatus v).regs = s.regs := rfl
@[simp] theorem setStatus_lpCount (s : State) (v : Word) : (s.setStatus v).lpCount = s.lpCount := rfl
@[simp] theorem setStatus_mulres (s : State) (v : Word) : (s.setStatus v).mulres = s.mulres := rfl
@[simp] theorem setStatus_pc (s : State) (v : Word) : (s.setStatus v).pc = s.pc := rfl
@[simp] theorem setStatus_flags (s : State) (v : Word) : (s.setStatus v).flags = flagsOf v := rfl
@[simp] theorem setStatus_e1 (s : State) (v : Word) : (s.setStatus v).e1 = bitAt v 1 := rfl
@[simp] theorem setStatus_e2 (s : State) (v : Word) : (s.setStatus v).e2 = bitAt v 2 := rfl
@[simp] theorem setStatus_h (s : State) (v : Word) : (s.setStatus v).h = s.h := rfl
@[simp] theorem setStatus_statusL1 (s : State) (v : Word) : (s.setStatus v).statusL1 = s.statusL1 := rfl
@[simp] theorem setStatus_statusL2 (s : State) (v : Word) : (s.setStatus v).statusL2 = s.statusL2 := rfl
@[simp] theorem setStatus_semCpu (s : State) (v : Word) : (s.setStatus v).semCpu = s.semCpu := rfl
@[simp] theorem setStatus_semHost (s : State) (v : Word) : (s.setStatus v).semHost = s.semHost := rfl
@[simp] theorem setStatus_lpStart (s : State) (v : Word) : (s.setStatus v).lpStart = s.lpStart := rfl
@[simp] theorem setStatus_lpEnd (s : State) (v : Word) : (s.setStatus v).lpEnd = s.lpEnd := rfl
@[simp] theorem setStatus_intVectorBase (s : State) (v : Word) : (s.setStatus v).intVectorBase = s.intVectorBase := rfl
@[simp] theorem setStatus_auxExt (s : State) (v : Word) : (s.setStatus v).auxExt = s.auxExt := rfl
@[simp] theorem setStatus_sh (s : State) (v : Word) : (s.setStatus v).sh = s.sh := rfl
@[simp] theorem setStatus_bh (s : State) (v : Word) : (s.setStatus v).bh = s.bh := rfl
@[simp] theorem setStatus_zz (s : State) (v : Word) : (s.setStatus v).zz = s.zz := rfl
@[simp] theorem setStatus_loadSeen (s : State) (v : Word) : (s.setStatus v).loadSeen = s.loadSeen := rfl
@[simp] theorem setStatus_delayTarget (s : State) (v : Word) : (s.setStatus v).delayTarget = s.delayTarget := rfl
@[simp] theorem setStatus_prevDslot (s : State) (v : Word) : (s.setStatus v).prevDslot = s.prevDslot := rfl
@[simp] theorem setStatus_prevCmpBranch (s : State) (v : Word) : (s.setStatus v).prevCmpBranch = s.prevCmpBranch := rfl
@[simp] theorem setStatus_prevFlag (s : State) (v : Word) : (s.setStatus v).prevFlag = s.prevFlag := rfl
@[simp] theorem setStatus_prevSrStatusL (s : State) (v : Word) : (s.setStatus v).prevSrStatusL = s.prevSrStatusL := rfl
@[simp] theorem setStatus_haltShadow (s : State) (v : Word) : (s.setStatus v).haltShadow = s.haltShadow := rfl
@[simp] theorem setStatus_lpcAge (s : State) (v : Word) : (s.setStatus v).lpcAge = s.lpcAge := rfl
@[simp] theorem setStatus_lpseAge (s : State) (v : Word) : (s.setStatus v).lpseAge = s.lpseAge := rfl
@[simp] theorem setStatus_mulBusy (s : State) (v : Word) : (s.setStatus v).mulBusy = s.mulBusy := rfl
@[simp] theorem setStatus_singleStep (s : State) (v : Word) : (s.setStatus v).singleStep = s.singleStep := rfl
@[simp] theorem setStatus_pending (s : State) (v : Word) : (s.setStatus v).pending = s.pending := rfl
@[simp] theorem setStatus_draw (s : State) (v : Word) : (s.setStatus v).draw = s.draw := rfl
@[simp] theorem setStatus_mem (s : State) (v : Word) : (s.setStatus v).mem = s.mem := rfl
@[simp] theorem setStatus_cfg (s : State) (v : Word) : (s.setStatus v).cfg = s.cfg := rfl

/-! ### enterClear -/

@[simp] theorem enterClear_regs (s : State) : (s.enterClear).regs = s.regs := rfl
@[simp] theorem enterClear_lpCount (s : State) : (s.enterClear).lpCount = s.lpCount := rfl
@[simp] theorem enterClear_mulres (s : State) : (s.enterClear).mulres = s.mulres := rfl
@[simp] theorem enterClear_pc (s : State) : (s.enterClear).pc = s.pc := rfl
@[simp] theorem enterClear_flags (s : State) : (s.enterClear).flags = s.flags := rfl
@[simp] theorem enterClear_e1 (s : State) : (s.enterClear).e1 = s.e1 := rfl
@[simp] theorem enterClear_e2 (s : State) : (s.enterClear).e2 = s.e2 := rfl
@[simp] theorem enterClear_h (s : State) : (s.enterClear).h = s.h := rfl
@[simp] theorem enterClear_statusL1 (s : State) : (s.enterClear).statusL1 = s.statusL1 := rfl
@[simp] theorem enterClear_statusL2 (s : State) : (s.enterClear).statusL2 = s.statusL2 := rfl
@[simp] theorem enterClear_semCpu (s : State) : (s.enterClear).semCpu = s.semCpu := rfl
@[simp] theorem enterClear_semHost (s : State) : (s.enterClear).semHost = s.semHost := rfl
@[simp] theorem enterClear_lpStart (s : State) : (s.enterClear).lpStart = s.lpStart := rfl
@[simp] theorem enterClear_lpEnd (s : State) : (s.enterClear).lpEnd = s.lpEnd := rfl
@[simp] theorem enterClear_intVectorBase (s : State) : (s.enterClear).intVectorBase = s.intVectorBase := rfl
@[simp] theorem enterClear_auxExt (s : State) : (s.enterClear).auxExt = s.auxExt := rfl
@[simp] theorem enterClear_sh (s : State) : (s.enterClear).sh = s.sh := rfl
@[simp] theorem enterClear_bh (s : State) : (s.enterClear).bh = s.bh := rfl
@[simp] theorem enterClear_zz (s : State) : (s.enterClear).zz = s.zz := rfl
@[simp] theorem enterClear_loadSeen (s : State) : (s.enterClear).loadSeen = s.loadSeen := rfl
@[simp] theorem enterClear_delayTarget (s : State) : (s.enterClear).delayTarget = none := rfl
@[simp] theorem enterClear_prevDslot (s : State) : (s.enterClear).prevDslot = false := rfl
@[simp] theorem enterClear_prevCmpBranch (s : State) : (s.enterClear).prevCmpBranch = false := rfl
@[simp] theorem enterClear_prevFlag (s : State) : (s.enterClear).prevFlag = false := rfl
@[simp] theorem enterClear_prevSrStatusL (s : State) : (s.enterClear).prevSrStatusL = false := rfl
@[simp] theorem enterClear_haltShadow (s : State) : (s.enterClear).haltShadow = s.haltShadow := rfl
@[simp] theorem enterClear_lpcAge (s : State) : (s.enterClear).lpcAge = s.lpcAge := rfl
@[simp] theorem enterClear_lpseAge (s : State) : (s.enterClear).lpseAge = s.lpseAge := rfl
@[simp] theorem enterClear_mulBusy (s : State) : (s.enterClear).mulBusy = s.mulBusy := rfl
@[simp] theorem enterClear_singleStep (s : State) : (s.enterClear).singleStep = s.singleStep := rfl
@[simp] theorem enterClear_pending (s : State) : (s.enterClear).pending = s.pending := rfl
@[simp] theorem enterClear_draw (s : State) : (s.enterClear).draw = s.draw + 1 := rfl
@[simp] theorem enterClear_mem (s : State) : (s.enterClear).mem = s.mem := rfl
@[simp] theorem enterClear_cfg (s : State) : (s.enterClear).cfg = s.cfg := rfl

/-! ### restoreStatus -/

@[simp] theorem restoreStatus_regs (s : State) (k : Bool) : (s.restoreStatus k).regs = s.regs := rfl
@[simp] theorem restoreStatus_lpCount (s : State) (k : Bool) : (s.restoreStatus k).lpCount = s.lpCount := rfl
@[simp] theorem restoreStatus_mulres (s : State) (k : Bool) : (s.restoreStatus k).mulres = s.mulres := rfl
@[simp] theorem restoreStatus_pc (s : State) (k : Bool) : (s.restoreStatus k).pc = s.pc := rfl
@[simp] theorem restoreStatus_flags (s : State) (k : Bool) : (s.restoreStatus k).flags = flagsOf (bif k then s.statusL2 else s.statusL1) := rfl
@[simp] theorem restoreStatus_e1 (s : State) (k : Bool) : (s.restoreStatus k).e1 = bitAt (bif k then s.statusL2 else s.statusL1) 1 := rfl
@[simp] theorem restoreStatus_e2 (s : State) (k : Bool) : (s.restoreStatus k).e2 = bitAt (bif k then s.statusL2 else s.statusL1) 2 := rfl
@[simp] theorem restoreStatus_h (s : State) (k : Bool) : (s.restoreStatus k).h = s.h := rfl
@[simp] theorem restoreStatus_statusL1 (s : State) (k : Bool) : (s.restoreStatus k).statusL1 = s.statusL1 := rfl
@[simp] theorem restoreStatus_statusL2 (s : State) (k : Bool) : (s.restoreStatus k).statusL2 = s.statusL2 := rfl
@[simp] theorem restoreStatus_semCpu (s : State) (k : Bool) : (s.restoreStatus k).semCpu = s.semCpu := rfl
@[simp] theorem restoreStatus_semHost (s : State) (k : Bool) : (s.restoreStatus k).semHost = s.semHost := rfl
@[simp] theorem restoreStatus_lpStart (s : State) (k : Bool) : (s.restoreStatus k).lpStart = s.lpStart := rfl
@[simp] theorem restoreStatus_lpEnd (s : State) (k : Bool) : (s.restoreStatus k).lpEnd = s.lpEnd := rfl
@[simp] theorem restoreStatus_intVectorBase (s : State) (k : Bool) : (s.restoreStatus k).intVectorBase = s.intVectorBase := rfl
@[simp] theorem restoreStatus_auxExt (s : State) (k : Bool) : (s.restoreStatus k).auxExt = s.auxExt := rfl
@[simp] theorem restoreStatus_sh (s : State) (k : Bool) : (s.restoreStatus k).sh = s.sh := rfl
@[simp] theorem restoreStatus_bh (s : State) (k : Bool) : (s.restoreStatus k).bh = s.bh := rfl
@[simp] theorem restoreStatus_zz (s : State) (k : Bool) : (s.restoreStatus k).zz = s.zz := rfl
@[simp] theorem restoreStatus_loadSeen (s : State) (k : Bool) : (s.restoreStatus k).loadSeen = s.loadSeen := rfl
@[simp] theorem restoreStatus_delayTarget (s : State) (k : Bool) : (s.restoreStatus k).delayTarget = s.delayTarget := rfl
@[simp] theorem restoreStatus_prevDslot (s : State) (k : Bool) : (s.restoreStatus k).prevDslot = s.prevDslot := rfl
@[simp] theorem restoreStatus_prevCmpBranch (s : State) (k : Bool) : (s.restoreStatus k).prevCmpBranch = s.prevCmpBranch := rfl
@[simp] theorem restoreStatus_prevFlag (s : State) (k : Bool) : (s.restoreStatus k).prevFlag = s.prevFlag := rfl
@[simp] theorem restoreStatus_prevSrStatusL (s : State) (k : Bool) : (s.restoreStatus k).prevSrStatusL = s.prevSrStatusL := rfl
@[simp] theorem restoreStatus_haltShadow (s : State) (k : Bool) : (s.restoreStatus k).haltShadow = s.haltShadow := rfl
@[simp] theorem restoreStatus_lpcAge (s : State) (k : Bool) : (s.restoreStatus k).lpcAge = s.lpcAge := rfl
@[simp] theorem restoreStatus_lpseAge (s : State) (k : Bool) : (s.restoreStatus k).lpseAge = s.lpseAge := rfl
@[simp] theorem restoreStatus_mulBusy (s : State) (k : Bool) : (s.restoreStatus k).mulBusy = s.mulBusy := rfl
@[simp] theorem restoreStatus_singleStep (s : State) (k : Bool) : (s.restoreStatus k).singleStep = s.singleStep := rfl
@[simp] theorem restoreStatus_pending (s : State) (k : Bool) : (s.restoreStatus k).pending = s.pending := rfl
@[simp] theorem restoreStatus_draw (s : State) (k : Bool) : (s.restoreStatus k).draw = s.draw := rfl
@[simp] theorem restoreStatus_mem (s : State) (k : Bool) : (s.restoreStatus k).mem = s.mem := rfl
@[simp] theorem restoreStatus_cfg (s : State) (k : Bool) : (s.restoreStatus k).cfg = s.cfg := rfl

/-! ### ended -/

@[simp] theorem ended_regs (s : State) (l : Len) (e : Ending) (t : State) : (s.ended l e t).regs = t.regs := rfl
@[simp] theorem ended_lpCount (s : State) (l : Len) (e : Ending) (t : State) : (s.ended l e t).lpCount = s.nextLpCount l e t.lpCount := rfl
@[simp] theorem ended_mulres (s : State) (l : Len) (e : Ending) (t : State) : (s.ended l e t).mulres = t.mulres := rfl
@[simp] theorem ended_pc (s : State) (l : Len) (e : Ending) (t : State) : (s.ended l e t).pc = (s.nextPc l e).1 := rfl
@[simp] theorem ended_flags (s : State) (l : Len) (e : Ending) (t : State) : (s.ended l e t).flags = t.flags := rfl
@[simp] theorem ended_e1 (s : State) (l : Len) (e : Ending) (t : State) : (s.ended l e t).e1 = t.e1 := rfl
@[simp] theorem ended_e2 (s : State) (l : Len) (e : Ending) (t : State) : (s.ended l e t).e2 = t.e2 := rfl
@[simp] theorem ended_h (s : State) (l : Len) (e : Ending) (t : State) : (s.ended l e t).h = t.h := rfl
@[simp] theorem ended_statusL1 (s : State) (l : Len) (e : Ending) (t : State) : (s.ended l e t).statusL1 = t.statusL1 := rfl
@[simp] theorem ended_statusL2 (s : State) (l : Len) (e : Ending) (t : State) : (s.ended l e t).statusL2 = t.statusL2 := rfl
@[simp] theorem ended_semCpu (s : State) (l : Len) (e : Ending) (t : State) : (s.ended l e t).semCpu = t.semCpu := rfl
@[simp] theorem ended_semHost (s : State) (l : Len) (e : Ending) (t : State) : (s.ended l e t).semHost = t.semHost := rfl
@[simp] theorem ended_lpStart (s : State) (l : Len) (e : Ending) (t : State) : (s.ended l e t).lpStart = t.lpStart := rfl
@[simp] theorem ended_lpEnd (s : State) (l : Len) (e : Ending) (t : State) : (s.ended l e t).lpEnd = t.lpEnd := rfl
@[simp] theorem ended_intVectorBase (s : State) (l : Len) (e : Ending) (t : State) : (s.ended l e t).intVectorBase = t.intVectorBase := rfl
@[simp] theorem ended_auxExt (s : State) (l : Len) (e : Ending) (t : State) : (s.ended l e t).auxExt = t.auxExt := rfl
@[simp] theorem ended_sh (s : State) (l : Len) (e : Ending) (t : State) : (s.ended l e t).sh = t.sh := rfl
@[simp] theorem ended_bh (s : State) (l : Len) (e : Ending) (t : State) : (s.ended l e t).bh = t.bh := rfl
@[simp] theorem ended_zz (s : State) (l : Len) (e : Ending) (t : State) : (s.ended l e t).zz = t.zz := rfl
@[simp] theorem ended_loadSeen (s : State) (l : Len) (e : Ending) (t : State) : (s.ended l e t).loadSeen = t.loadSeen := rfl
@[simp] theorem ended_delayTarget (s : State) (l : Len) (e : Ending) (t : State) : (s.ended l e t).delayTarget = (s.nextPc l e).2 := rfl
@[simp] theorem ended_prevDslot (s : State) (l : Len) (e : Ending) (t : State) : (s.ended l e t).prevDslot = e.dslotForm := rfl
@[simp] theorem ended_prevCmpBranch (s : State) (l : Len) (e : Ending) (t : State) : (s.ended l e t).prevCmpBranch = e.cmpBranch := rfl
@[simp] theorem ended_prevFlag (s : State) (l : Len) (e : Ending) (t : State) : (s.ended l e t).prevFlag = e.wasFlag := rfl
@[simp] theorem ended_prevSrStatusL (s : State) (l : Len) (e : Ending) (t : State) : (s.ended l e t).prevSrStatusL = e.wasSrStatusL := rfl
@[simp] theorem ended_haltShadow (s : State) (l : Len) (e : Ending) (t : State) : (s.ended l e t).haltShadow = t.haltShadow := rfl
@[simp] theorem ended_lpcAge (s : State) (l : Len) (e : Ending) (t : State) : (s.ended l e t).lpcAge = s.nextLpcAge l e := rfl
@[simp] theorem ended_lpseAge (s : State) (l : Len) (e : Ending) (t : State) : (s.ended l e t).lpseAge = s.nextLpseAge l e := rfl
@[simp] theorem ended_mulBusy (s : State) (l : Len) (e : Ending) (t : State) : (s.ended l e t).mulBusy = t.mulBusy := rfl
@[simp] theorem ended_singleStep (s : State) (l : Len) (e : Ending) (t : State) : (s.ended l e t).singleStep = t.singleStep := rfl
@[simp] theorem ended_pending (s : State) (l : Len) (e : Ending) (t : State) : (s.ended l e t).pending = t.pending := rfl
@[simp] theorem ended_draw (s : State) (l : Len) (e : Ending) (t : State) : (s.ended l e t).draw = s.draw + 1 := rfl
@[simp] theorem ended_mem (s : State) (l : Len) (e : Ending) (t : State) : (s.ended l e t).mem = t.mem := rfl
@[simp] theorem ended_cfg (s : State) (l : Len) (e : Ending) (t : State) : (s.ended l e t).cfg = t.cfg := rfl

/-! ### afterReads: only `mulBusy` -/

theorem afterReads_eq (s : State) (os : List Operand) :
    s.afterReads os = { s with
      mulBusy := (s.afterReads os).mulBusy } := by
  unfold State.afterReads; cases os.any (Operand.isMul s.cfg) <;> rfl
@[simp] theorem afterReads_regs (s : State) (os : List Operand) : (s.afterReads os).regs = s.regs := by
  rw [afterReads_eq]
@[simp] theorem afterReads_lpCount (s : State) (os : List Operand) : (s.afterReads os).lpCount = s.lpCount := by
  rw [afterReads_eq]
@[simp] theorem afterReads_mulres (s : State) (os : List Operand) : (s.afterReads os).mulres = s.mulres := by
  rw [afterReads_eq]
@[simp] theorem afterReads_pc (s : State) (os : List Operand) : (s.afterReads os).pc = s.pc := by
  rw [afterReads_eq]
@[simp] theorem afterReads_flags (s : State) (os : List Operand) : (s.afterReads os).flags = s.flags := by
  rw [afterReads_eq]
@[simp] theorem afterReads_e1 (s : State) (os : List Operand) : (s.afterReads os).e1 = s.e1 := by
  rw [afterReads_eq]
@[simp] theorem afterReads_e2 (s : State) (os : List Operand) : (s.afterReads os).e2 = s.e2 := by
  rw [afterReads_eq]
@[simp] theorem afterReads_h (s : State) (os : List Operand) : (s.afterReads os).h = s.h := by
  rw [afterReads_eq]
@[simp] theorem afterReads_statusL1 (s : State) (os : List Operand) : (s.afterReads os).statusL1 = s.statusL1 := by
  rw [afterReads_eq]
@[simp] theorem afterReads_statusL2 (s : State) (os : List Operand) : (s.afterReads os).statusL2 = s.statusL2 := by
  rw [afterReads_eq]
@[simp] theorem afterReads_semCpu (s : State) (os : List Operand) : (s.afterReads os).semCpu = s.semCpu := by
  rw [afterReads_eq]
@[simp] theorem afterReads_semHost (s : State) (os : List Operand) : (s.afterReads os).semHost = s.semHost := by
  rw [afterReads_eq]
@[simp] theorem afterReads_lpStart (s : State) (os : List Operand) : (s.afterReads os).lpStart = s.lpStart := by
  rw [afterReads_eq]
@[simp] theorem afterReads_lpEnd (s : State) (os : List Operand) : (s.afterReads os).lpEnd = s.lpEnd := by
  rw [afterReads_eq]
@[simp] theorem afterReads_intVectorBase (s : State) (os : List Operand) : (s.afterReads os).intVectorBase = s.intVectorBase := by
  rw [afterReads_eq]
@[simp] theorem afterReads_auxExt (s : State) (os : List Operand) : (s.afterReads os).auxExt = s.auxExt := by
  rw [afterReads_eq]
@[simp] theorem afterReads_sh (s : State) (os : List Operand) : (s.afterReads os).sh = s.sh := by
  rw [afterReads_eq]
@[simp] theorem afterReads_bh (s : State) (os : List Operand) : (s.afterReads os).bh = s.bh := by
  rw [afterReads_eq]
@[simp] theorem afterReads_zz (s : State) (os : List Operand) : (s.afterReads os).zz = s.zz := by
  rw [afterReads_eq]
@[simp] theorem afterReads_loadSeen (s : State) (os : List Operand) : (s.afterReads os).loadSeen = s.loadSeen := by
  rw [afterReads_eq]
@[simp] theorem afterReads_delayTarget (s : State) (os : List Operand) : (s.afterReads os).delayTarget = s.delayTarget := by
  rw [afterReads_eq]
@[simp] theorem afterReads_prevDslot (s : State) (os : List Operand) : (s.afterReads os).prevDslot = s.prevDslot := by
  rw [afterReads_eq]
@[simp] theorem afterReads_prevCmpBranch (s : State) (os : List Operand) : (s.afterReads os).prevCmpBranch = s.prevCmpBranch := by
  rw [afterReads_eq]
@[simp] theorem afterReads_prevFlag (s : State) (os : List Operand) : (s.afterReads os).prevFlag = s.prevFlag := by
  rw [afterReads_eq]
@[simp] theorem afterReads_prevSrStatusL (s : State) (os : List Operand) : (s.afterReads os).prevSrStatusL = s.prevSrStatusL := by
  rw [afterReads_eq]
@[simp] theorem afterReads_haltShadow (s : State) (os : List Operand) : (s.afterReads os).haltShadow = s.haltShadow := by
  rw [afterReads_eq]
@[simp] theorem afterReads_lpcAge (s : State) (os : List Operand) : (s.afterReads os).lpcAge = s.lpcAge := by
  rw [afterReads_eq]
@[simp] theorem afterReads_lpseAge (s : State) (os : List Operand) : (s.afterReads os).lpseAge = s.lpseAge := by
  rw [afterReads_eq]
@[simp] theorem afterReads_singleStep (s : State) (os : List Operand) : (s.afterReads os).singleStep = s.singleStep := by
  rw [afterReads_eq]
@[simp] theorem afterReads_pending (s : State) (os : List Operand) : (s.afterReads os).pending = s.pending := by
  rw [afterReads_eq]
@[simp] theorem afterReads_draw (s : State) (os : List Operand) : (s.afterReads os).draw = s.draw := by
  rw [afterReads_eq]
@[simp] theorem afterReads_mem (s : State) (os : List Operand) : (s.afterReads os).mem = s.mem := by
  rw [afterReads_eq]
@[simp] theorem afterReads_cfg (s : State) (os : List Operand) : (s.afterReads os).cfg = s.cfg := by
  rw [afterReads_eq]

/-! ### writeCore: only `regs` and `lpCount` -/

theorem writeCore_eq (s : State) (r : Reg) (v : Word) :
    s.writeCore r v = { s with
      regs := (s.writeCore r v).regs
      lpCount := (s.writeCore r v).lpCount } := by
  simp only [State.writeCore, cond_eq_ite]; repeat' split
  all_goals rfl
@[simp] theorem writeCore_mulres (s : State) (r : Reg) (v : Word) : (s.writeCore r v).mulres = s.mulres := by
  rw [writeCore_eq]
@[simp] theorem writeCore_pc (s : State) (r : Reg) (v : Word) : (s.writeCore r v).pc = s.pc := by
  rw [writeCore_eq]
@[simp] theorem writeCore_flags (s : State) (r : Reg) (v : Word) : (s.writeCore r v).flags = s.flags := by
  rw [writeCore_eq]
@[simp] theorem writeCore_e1 (s : State) (r : Reg) (v : Word) : (s.writeCore r v).e1 = s.e1 := by
  rw [writeCore_eq]
@[simp] theorem writeCore_e2 (s : State) (r : Reg) (v : Word) : (s.writeCore r v).e2 = s.e2 := by
  rw [writeCore_eq]
@[simp] theorem writeCore_h (s : State) (r : Reg) (v : Word) : (s.writeCore r v).h = s.h := by
  rw [writeCore_eq]
@[simp] theorem writeCore_statusL1 (s : State) (r : Reg) (v : Word) : (s.writeCore r v).statusL1 = s.statusL1 := by
  rw [writeCore_eq]
@[simp] theorem writeCore_statusL2 (s : State) (r : Reg) (v : Word) : (s.writeCore r v).statusL2 = s.statusL2 := by
  rw [writeCore_eq]
@[simp] theorem writeCore_semCpu (s : State) (r : Reg) (v : Word) : (s.writeCore r v).semCpu = s.semCpu := by
  rw [writeCore_eq]
@[simp] theorem writeCore_semHost (s : State) (r : Reg) (v : Word) : (s.writeCore r v).semHost = s.semHost := by
  rw [writeCore_eq]
@[simp] theorem writeCore_lpStart (s : State) (r : Reg) (v : Word) : (s.writeCore r v).lpStart = s.lpStart := by
  rw [writeCore_eq]
@[simp] theorem writeCore_lpEnd (s : State) (r : Reg) (v : Word) : (s.writeCore r v).lpEnd = s.lpEnd := by
  rw [writeCore_eq]
@[simp] theorem writeCore_intVectorBase (s : State) (r : Reg) (v : Word) : (s.writeCore r v).intVectorBase = s.intVectorBase := by
  rw [writeCore_eq]
@[simp] theorem writeCore_auxExt (s : State) (r : Reg) (v : Word) : (s.writeCore r v).auxExt = s.auxExt := by
  rw [writeCore_eq]
@[simp] theorem writeCore_sh (s : State) (r : Reg) (v : Word) : (s.writeCore r v).sh = s.sh := by
  rw [writeCore_eq]
@[simp] theorem writeCore_bh (s : State) (r : Reg) (v : Word) : (s.writeCore r v).bh = s.bh := by
  rw [writeCore_eq]
@[simp] theorem writeCore_zz (s : State) (r : Reg) (v : Word) : (s.writeCore r v).zz = s.zz := by
  rw [writeCore_eq]
@[simp] theorem writeCore_loadSeen (s : State) (r : Reg) (v : Word) : (s.writeCore r v).loadSeen = s.loadSeen := by
  rw [writeCore_eq]
@[simp] theorem writeCore_delayTarget (s : State) (r : Reg) (v : Word) : (s.writeCore r v).delayTarget = s.delayTarget := by
  rw [writeCore_eq]
@[simp] theorem writeCore_prevDslot (s : State) (r : Reg) (v : Word) : (s.writeCore r v).prevDslot = s.prevDslot := by
  rw [writeCore_eq]
@[simp] theorem writeCore_prevCmpBranch (s : State) (r : Reg) (v : Word) : (s.writeCore r v).prevCmpBranch = s.prevCmpBranch := by
  rw [writeCore_eq]
@[simp] theorem writeCore_prevFlag (s : State) (r : Reg) (v : Word) : (s.writeCore r v).prevFlag = s.prevFlag := by
  rw [writeCore_eq]
@[simp] theorem writeCore_prevSrStatusL (s : State) (r : Reg) (v : Word) : (s.writeCore r v).prevSrStatusL = s.prevSrStatusL := by
  rw [writeCore_eq]
@[simp] theorem writeCore_haltShadow (s : State) (r : Reg) (v : Word) : (s.writeCore r v).haltShadow = s.haltShadow := by
  rw [writeCore_eq]
@[simp] theorem writeCore_lpcAge (s : State) (r : Reg) (v : Word) : (s.writeCore r v).lpcAge = s.lpcAge := by
  rw [writeCore_eq]
@[simp] theorem writeCore_lpseAge (s : State) (r : Reg) (v : Word) : (s.writeCore r v).lpseAge = s.lpseAge := by
  rw [writeCore_eq]
@[simp] theorem writeCore_mulBusy (s : State) (r : Reg) (v : Word) : (s.writeCore r v).mulBusy = s.mulBusy := by
  rw [writeCore_eq]
@[simp] theorem writeCore_singleStep (s : State) (r : Reg) (v : Word) : (s.writeCore r v).singleStep = s.singleStep := by
  rw [writeCore_eq]
@[simp] theorem writeCore_pending (s : State) (r : Reg) (v : Word) : (s.writeCore r v).pending = s.pending := by
  rw [writeCore_eq]
@[simp] theorem writeCore_draw (s : State) (r : Reg) (v : Word) : (s.writeCore r v).draw = s.draw := by
  rw [writeCore_eq]
@[simp] theorem writeCore_mem (s : State) (r : Reg) (v : Word) : (s.writeCore r v).mem = s.mem := by
  rw [writeCore_eq]
@[simp] theorem writeCore_cfg (s : State) (r : Reg) (v : Word) : (s.writeCore r v).cfg = s.cfg := by
  rw [writeCore_eq]

/-! ### writeDest: the same -/

theorem writeDest_eq (s : State) (d : Option Reg) (v : Word) :
    s.writeDest d v = { s with
      regs := (s.writeDest d v).regs
      lpCount := (s.writeDest d v).lpCount } := by
  cases d with
  | none => rfl
  | some r => exact writeCore_eq s r v
@[simp] theorem writeDest_mulres (s : State) (d : Option Reg) (v : Word) : (s.writeDest d v).mulres = s.mulres := by
  rw [writeDest_eq]
@[simp] theorem writeDest_pc (s : State) (d : Option Reg) (v : Word) : (s.writeDest d v).pc = s.pc := by
  rw [writeDest_eq]
@[simp] theorem writeDest_flags (s : State) (d : Option Reg) (v : Word) : (s.writeDest d v).flags = s.flags := by
  rw [writeDest_eq]
@[simp] theorem writeDest_e1 (s : State) (d : Option Reg) (v : Word) : (s.writeDest d v).e1 = s.e1 := by
  rw [writeDest_eq]
@[simp] theorem writeDest_e2 (s : State) (d : Option Reg) (v : Word) : (s.writeDest d v).e2 = s.e2 := by
  rw [writeDest_eq]
@[simp] theorem writeDest_h (s : State) (d : Option Reg) (v : Word) : (s.writeDest d v).h = s.h := by
  rw [writeDest_eq]
@[simp] theorem writeDest_statusL1 (s : State) (d : Option Reg) (v : Word) : (s.writeDest d v).statusL1 = s.statusL1 := by
  rw [writeDest_eq]
@[simp] theorem writeDest_statusL2 (s : State) (d : Option Reg) (v : Word) : (s.writeDest d v).statusL2 = s.statusL2 := by
  rw [writeDest_eq]
@[simp] theorem writeDest_semCpu (s : State) (d : Option Reg) (v : Word) : (s.writeDest d v).semCpu = s.semCpu := by
  rw [writeDest_eq]
@[simp] theorem writeDest_semHost (s : State) (d : Option Reg) (v : Word) : (s.writeDest d v).semHost = s.semHost := by
  rw [writeDest_eq]
@[simp] theorem writeDest_lpStart (s : State) (d : Option Reg) (v : Word) : (s.writeDest d v).lpStart = s.lpStart := by
  rw [writeDest_eq]
@[simp] theorem writeDest_lpEnd (s : State) (d : Option Reg) (v : Word) : (s.writeDest d v).lpEnd = s.lpEnd := by
  rw [writeDest_eq]
@[simp] theorem writeDest_intVectorBase (s : State) (d : Option Reg) (v : Word) : (s.writeDest d v).intVectorBase = s.intVectorBase := by
  rw [writeDest_eq]
@[simp] theorem writeDest_auxExt (s : State) (d : Option Reg) (v : Word) : (s.writeDest d v).auxExt = s.auxExt := by
  rw [writeDest_eq]
@[simp] theorem writeDest_sh (s : State) (d : Option Reg) (v : Word) : (s.writeDest d v).sh = s.sh := by
  rw [writeDest_eq]
@[simp] theorem writeDest_bh (s : State) (d : Option Reg) (v : Word) : (s.writeDest d v).bh = s.bh := by
  rw [writeDest_eq]
@[simp] theorem writeDest_zz (s : State) (d : Option Reg) (v : Word) : (s.writeDest d v).zz = s.zz := by
  rw [writeDest_eq]
@[simp] theorem writeDest_loadSeen (s : State) (d : Option Reg) (v : Word) : (s.writeDest d v).loadSeen = s.loadSeen := by
  rw [writeDest_eq]
@[simp] theorem writeDest_delayTarget (s : State) (d : Option Reg) (v : Word) : (s.writeDest d v).delayTarget = s.delayTarget := by
  rw [writeDest_eq]
@[simp] theorem writeDest_prevDslot (s : State) (d : Option Reg) (v : Word) : (s.writeDest d v).prevDslot = s.prevDslot := by
  rw [writeDest_eq]
@[simp] theorem writeDest_prevCmpBranch (s : State) (d : Option Reg) (v : Word) : (s.writeDest d v).prevCmpBranch = s.prevCmpBranch := by
  rw [writeDest_eq]
@[simp] theorem writeDest_prevFlag (s : State) (d : Option Reg) (v : Word) : (s.writeDest d v).prevFlag = s.prevFlag := by
  rw [writeDest_eq]
@[simp] theorem writeDest_prevSrStatusL (s : State) (d : Option Reg) (v : Word) : (s.writeDest d v).prevSrStatusL = s.prevSrStatusL := by
  rw [writeDest_eq]
@[simp] theorem writeDest_haltShadow (s : State) (d : Option Reg) (v : Word) : (s.writeDest d v).haltShadow = s.haltShadow := by
  rw [writeDest_eq]
@[simp] theorem writeDest_lpcAge (s : State) (d : Option Reg) (v : Word) : (s.writeDest d v).lpcAge = s.lpcAge := by
  rw [writeDest_eq]
@[simp] theorem writeDest_lpseAge (s : State) (d : Option Reg) (v : Word) : (s.writeDest d v).lpseAge = s.lpseAge := by
  rw [writeDest_eq]
@[simp] theorem writeDest_mulBusy (s : State) (d : Option Reg) (v : Word) : (s.writeDest d v).mulBusy = s.mulBusy := by
  rw [writeDest_eq]
@[simp] theorem writeDest_singleStep (s : State) (d : Option Reg) (v : Word) : (s.writeDest d v).singleStep = s.singleStep := by
  rw [writeDest_eq]
@[simp] theorem writeDest_pending (s : State) (d : Option Reg) (v : Word) : (s.writeDest d v).pending = s.pending := by
  rw [writeDest_eq]
@[simp] theorem writeDest_draw (s : State) (d : Option Reg) (v : Word) : (s.writeDest d v).draw = s.draw := by
  rw [writeDest_eq]
@[simp] theorem writeDest_mem (s : State) (d : Option Reg) (v : Word) : (s.writeDest d v).mem = s.mem := by
  rw [writeDest_eq]
@[simp] theorem writeDest_cfg (s : State) (d : Option Reg) (v : Word) : (s.writeDest d v).cfg = s.cfg := by
  rw [writeDest_eq]

/-! ### writeBack: the same -/

theorem writeBack_eq (s : State) (d : Option Reg) (v : Option Word) :
    s.writeBack d v = { s with
      regs := (s.writeBack d v).regs
      lpCount := (s.writeBack d v).lpCount } := by
  cases d with
  | none => rfl
  | some r =>
    cases v with
    | none => rfl
    | some w => exact writeCore_eq s r w
@[simp] theorem writeBack_mulres (s : State) (d : Option Reg) (v : Option Word) : (s.writeBack d v).mulres = s.mulres := by
  rw [writeBack_eq]
@[simp] theorem writeBack_pc (s : State) (d : Option Reg) (v : Option Word) : (s.writeBack d v).pc = s.pc := by
  rw [writeBack_eq]
@[simp] theorem writeBack_flags (s : State) (d : Option Reg) (v : Option Word) : (s.writeBack d v).flags = s.flags := by
  rw [writeBack_eq]
@[simp] theorem writeBack_e1 (s : State) (d : Option Reg) (v : Option Word) : (s.writeBack d v).e1 = s.e1 := by
  rw [writeBack_eq]
@[simp] theorem writeBack_e2 (s : State) (d : Option Reg) (v : Option Word) : (s.writeBack d v).e2 = s.e2 := by
  rw [writeBack_eq]
@[simp] theorem writeBack_h (s : State) (d : Option Reg) (v : Option Word) : (s.writeBack d v).h = s.h := by
  rw [writeBack_eq]
@[simp] theorem writeBack_statusL1 (s : State) (d : Option Reg) (v : Option Word) : (s.writeBack d v).statusL1 = s.statusL1 := by
  rw [writeBack_eq]
@[simp] theorem writeBack_statusL2 (s : State) (d : Option Reg) (v : Option Word) : (s.writeBack d v).statusL2 = s.statusL2 := by
  rw [writeBack_eq]
@[simp] theorem writeBack_semCpu (s : State) (d : Option Reg) (v : Option Word) : (s.writeBack d v).semCpu = s.semCpu := by
  rw [writeBack_eq]
@[simp] theorem writeBack_semHost (s : State) (d : Option Reg) (v : Option Word) : (s.writeBack d v).semHost = s.semHost := by
  rw [writeBack_eq]
@[simp] theorem writeBack_lpStart (s : State) (d : Option Reg) (v : Option Word) : (s.writeBack d v).lpStart = s.lpStart := by
  rw [writeBack_eq]
@[simp] theorem writeBack_lpEnd (s : State) (d : Option Reg) (v : Option Word) : (s.writeBack d v).lpEnd = s.lpEnd := by
  rw [writeBack_eq]
@[simp] theorem writeBack_intVectorBase (s : State) (d : Option Reg) (v : Option Word) : (s.writeBack d v).intVectorBase = s.intVectorBase := by
  rw [writeBack_eq]
@[simp] theorem writeBack_auxExt (s : State) (d : Option Reg) (v : Option Word) : (s.writeBack d v).auxExt = s.auxExt := by
  rw [writeBack_eq]
@[simp] theorem writeBack_sh (s : State) (d : Option Reg) (v : Option Word) : (s.writeBack d v).sh = s.sh := by
  rw [writeBack_eq]
@[simp] theorem writeBack_bh (s : State) (d : Option Reg) (v : Option Word) : (s.writeBack d v).bh = s.bh := by
  rw [writeBack_eq]
@[simp] theorem writeBack_zz (s : State) (d : Option Reg) (v : Option Word) : (s.writeBack d v).zz = s.zz := by
  rw [writeBack_eq]
@[simp] theorem writeBack_loadSeen (s : State) (d : Option Reg) (v : Option Word) : (s.writeBack d v).loadSeen = s.loadSeen := by
  rw [writeBack_eq]
@[simp] theorem writeBack_delayTarget (s : State) (d : Option Reg) (v : Option Word) : (s.writeBack d v).delayTarget = s.delayTarget := by
  rw [writeBack_eq]
@[simp] theorem writeBack_prevDslot (s : State) (d : Option Reg) (v : Option Word) : (s.writeBack d v).prevDslot = s.prevDslot := by
  rw [writeBack_eq]
@[simp] theorem writeBack_prevCmpBranch (s : State) (d : Option Reg) (v : Option Word) : (s.writeBack d v).prevCmpBranch = s.prevCmpBranch := by
  rw [writeBack_eq]
@[simp] theorem writeBack_prevFlag (s : State) (d : Option Reg) (v : Option Word) : (s.writeBack d v).prevFlag = s.prevFlag := by
  rw [writeBack_eq]
@[simp] theorem writeBack_prevSrStatusL (s : State) (d : Option Reg) (v : Option Word) : (s.writeBack d v).prevSrStatusL = s.prevSrStatusL := by
  rw [writeBack_eq]
@[simp] theorem writeBack_haltShadow (s : State) (d : Option Reg) (v : Option Word) : (s.writeBack d v).haltShadow = s.haltShadow := by
  rw [writeBack_eq]
@[simp] theorem writeBack_lpcAge (s : State) (d : Option Reg) (v : Option Word) : (s.writeBack d v).lpcAge = s.lpcAge := by
  rw [writeBack_eq]
@[simp] theorem writeBack_lpseAge (s : State) (d : Option Reg) (v : Option Word) : (s.writeBack d v).lpseAge = s.lpseAge := by
  rw [writeBack_eq]
@[simp] theorem writeBack_mulBusy (s : State) (d : Option Reg) (v : Option Word) : (s.writeBack d v).mulBusy = s.mulBusy := by
  rw [writeBack_eq]
@[simp] theorem writeBack_singleStep (s : State) (d : Option Reg) (v : Option Word) : (s.writeBack d v).singleStep = s.singleStep := by
  rw [writeBack_eq]
@[simp] theorem writeBack_pending (s : State) (d : Option Reg) (v : Option Word) : (s.writeBack d v).pending = s.pending := by
  rw [writeBack_eq]
@[simp] theorem writeBack_draw (s : State) (d : Option Reg) (v : Option Word) : (s.writeBack d v).draw = s.draw := by
  rw [writeBack_eq]
@[simp] theorem writeBack_mem (s : State) (d : Option Reg) (v : Option Word) : (s.writeBack d v).mem = s.mem := by
  rw [writeBack_eq]
@[simp] theorem writeBack_cfg (s : State) (d : Option Reg) (v : Option Word) : (s.writeBack d v).cfg = s.cfg := by
  rw [writeBack_eq]

/-! ### writeData: only `mem` -/

theorem writeData_eq (s : State) (sz : Size) (a v : Word) :
    s.writeData sz a v = { s with
      mem := (s.writeData sz a v).mem } := by
  cases sz <;> rfl
@[simp] theorem writeData_regs (s : State) (sz : Size) (a v : Word) : (s.writeData sz a v).regs = s.regs := by
  rw [writeData_eq]
@[simp] theorem writeData_lpCount (s : State) (sz : Size) (a v : Word) : (s.writeData sz a v).lpCount = s.lpCount := by
  rw [writeData_eq]
@[simp] theorem writeData_mulres (s : State) (sz : Size) (a v : Word) : (s.writeData sz a v).mulres = s.mulres := by
  rw [writeData_eq]
@[simp] theorem writeData_pc (s : State) (sz : Size) (a v : Word) : (s.writeData sz a v).pc = s.pc := by
  rw [writeData_eq]
@[simp] theorem writeData_flags (s : State) (sz : Size) (a v : Word) : (s.writeData sz a v).flags = s.flags := by
  rw [writeData_eq]
@[simp] theorem writeData_e1 (s : State) (sz : Size) (a v : Word) : (s.writeData sz a v).e1 = s.e1 := by
  rw [writeData_eq]
@[simp] theorem writeData_e2 (s : State) (sz : Size) (a v : Word) : (s.writeData sz a v).e2 = s.e2 := by
  rw [writeData_eq]
@[simp] theorem writeData_h (s : State) (sz : Size) (a v : Word) : (s.writeData sz a v).h = s.h := by
  rw [writeData_eq]
@[simp] theorem writeData_statusL1 (s : State) (sz : Size) (a v : Word) : (s.writeData sz a v).statusL1 = s.statusL1 := by
  rw [writeData_eq]
@[simp] theorem writeData_statusL2 (s : State) (sz : Size) (a v : Word) : (s.writeData sz a v).statusL2 = s.statusL2 := by
  rw [writeData_eq]
@[simp] theorem writeData_semCpu (s : State) (sz : Size) (a v : Word) : (s.writeData sz a v).semCpu = s.semCpu := by
  rw [writeData_eq]
@[simp] theorem writeData_semHost (s : State) (sz : Size) (a v : Word) : (s.writeData sz a v).semHost = s.semHost := by
  rw [writeData_eq]
@[simp] theorem writeData_lpStart (s : State) (sz : Size) (a v : Word) : (s.writeData sz a v).lpStart = s.lpStart := by
  rw [writeData_eq]
@[simp] theorem writeData_lpEnd (s : State) (sz : Size) (a v : Word) : (s.writeData sz a v).lpEnd = s.lpEnd := by
  rw [writeData_eq]
@[simp] theorem writeData_intVectorBase (s : State) (sz : Size) (a v : Word) : (s.writeData sz a v).intVectorBase = s.intVectorBase := by
  rw [writeData_eq]
@[simp] theorem writeData_auxExt (s : State) (sz : Size) (a v : Word) : (s.writeData sz a v).auxExt = s.auxExt := by
  rw [writeData_eq]
@[simp] theorem writeData_sh (s : State) (sz : Size) (a v : Word) : (s.writeData sz a v).sh = s.sh := by
  rw [writeData_eq]
@[simp] theorem writeData_bh (s : State) (sz : Size) (a v : Word) : (s.writeData sz a v).bh = s.bh := by
  rw [writeData_eq]
@[simp] theorem writeData_zz (s : State) (sz : Size) (a v : Word) : (s.writeData sz a v).zz = s.zz := by
  rw [writeData_eq]
@[simp] theorem writeData_loadSeen (s : State) (sz : Size) (a v : Word) : (s.writeData sz a v).loadSeen = s.loadSeen := by
  rw [writeData_eq]
@[simp] theorem writeData_delayTarget (s : State) (sz : Size) (a v : Word) : (s.writeData sz a v).delayTarget = s.delayTarget := by
  rw [writeData_eq]
@[simp] theorem writeData_prevDslot (s : State) (sz : Size) (a v : Word) : (s.writeData sz a v).prevDslot = s.prevDslot := by
  rw [writeData_eq]
@[simp] theorem writeData_prevCmpBranch (s : State) (sz : Size) (a v : Word) : (s.writeData sz a v).prevCmpBranch = s.prevCmpBranch := by
  rw [writeData_eq]
@[simp] theorem writeData_prevFlag (s : State) (sz : Size) (a v : Word) : (s.writeData sz a v).prevFlag = s.prevFlag := by
  rw [writeData_eq]
@[simp] theorem writeData_prevSrStatusL (s : State) (sz : Size) (a v : Word) : (s.writeData sz a v).prevSrStatusL = s.prevSrStatusL := by
  rw [writeData_eq]
@[simp] theorem writeData_haltShadow (s : State) (sz : Size) (a v : Word) : (s.writeData sz a v).haltShadow = s.haltShadow := by
  rw [writeData_eq]
@[simp] theorem writeData_lpcAge (s : State) (sz : Size) (a v : Word) : (s.writeData sz a v).lpcAge = s.lpcAge := by
  rw [writeData_eq]
@[simp] theorem writeData_lpseAge (s : State) (sz : Size) (a v : Word) : (s.writeData sz a v).lpseAge = s.lpseAge := by
  rw [writeData_eq]
@[simp] theorem writeData_mulBusy (s : State) (sz : Size) (a v : Word) : (s.writeData sz a v).mulBusy = s.mulBusy := by
  rw [writeData_eq]
@[simp] theorem writeData_singleStep (s : State) (sz : Size) (a v : Word) : (s.writeData sz a v).singleStep = s.singleStep := by
  rw [writeData_eq]
@[simp] theorem writeData_pending (s : State) (sz : Size) (a v : Word) : (s.writeData sz a v).pending = s.pending := by
  rw [writeData_eq]
@[simp] theorem writeData_draw (s : State) (sz : Size) (a v : Word) : (s.writeData sz a v).draw = s.draw := by
  rw [writeData_eq]
@[simp] theorem writeData_cfg (s : State) (sz : Size) (a v : Word) : (s.writeData sz a v).cfg = s.cfg := by
  rw [writeData_eq]

/-! ### setExtAux -/

@[simp] theorem setExtAux_regs (s : State) (a v : Word) : (s.setExtAux a v).regs = s.regs := rfl
@[simp] theorem setExtAux_lpCount (s : State) (a v : Word) : (s.setExtAux a v).lpCount = s.lpCount := rfl
@[simp] theorem setExtAux_mulres (s : State) (a v : Word) : (s.setExtAux a v).mulres = s.mulres := rfl
@[simp] theorem setExtAux_pc (s : State) (a v : Word) : (s.setExtAux a v).pc = s.pc := rfl
@[simp] theorem setExtAux_flags (s : State) (a v : Word) : (s.setExtAux a v).flags = s.flags := rfl
@[simp] theorem setExtAux_e1 (s : State) (a v : Word) : (s.setExtAux a v).e1 = s.e1 := rfl
@[simp] theorem setExtAux_e2 (s : State) (a v : Word) : (s.setExtAux a v).e2 = s.e2 := rfl
@[simp] theorem setExtAux_h (s : State) (a v : Word) : (s.setExtAux a v).h = s.h := rfl
@[simp] theorem setExtAux_statusL1 (s : State) (a v : Word) : (s.setExtAux a v).statusL1 = s.statusL1 := rfl
@[simp] theorem setExtAux_statusL2 (s : State) (a v : Word) : (s.setExtAux a v).statusL2 = s.statusL2 := rfl
@[simp] theorem setExtAux_semCpu (s : State) (a v : Word) : (s.setExtAux a v).semCpu = s.semCpu := rfl
@[simp] theorem setExtAux_semHost (s : State) (a v : Word) : (s.setExtAux a v).semHost = s.semHost := rfl
@[simp] theorem setExtAux_lpStart (s : State) (a v : Word) : (s.setExtAux a v).lpStart = s.lpStart := rfl
@[simp] theorem setExtAux_lpEnd (s : State) (a v : Word) : (s.setExtAux a v).lpEnd = s.lpEnd := rfl
@[simp] theorem setExtAux_intVectorBase (s : State) (a v : Word) : (s.setExtAux a v).intVectorBase = s.intVectorBase := rfl
@[simp] theorem setExtAux_auxExt (s : State) (a v : Word) : (s.setExtAux a v).auxExt = s.auxExt.set (s.cfg.extAux.idxOf a) v := rfl
@[simp] theorem setExtAux_sh (s : State) (a v : Word) : (s.setExtAux a v).sh = s.sh := rfl
@[simp] theorem setExtAux_bh (s : State) (a v : Word) : (s.setExtAux a v).bh = s.bh := rfl
@[simp] theorem setExtAux_zz (s : State) (a v : Word) : (s.setExtAux a v).zz = s.zz := rfl
@[simp] theorem setExtAux_loadSeen (s : State) (a v : Word) : (s.setExtAux a v).loadSeen = s.loadSeen := rfl
@[simp] theorem setExtAux_delayTarget (s : State) (a v : Word) : (s.setExtAux a v).delayTarget = s.delayTarget := rfl
@[simp] theorem setExtAux_prevDslot (s : State) (a v : Word) : (s.setExtAux a v).prevDslot = s.prevDslot := rfl
@[simp] theorem setExtAux_prevCmpBranch (s : State) (a v : Word) : (s.setExtAux a v).prevCmpBranch = s.prevCmpBranch := rfl
@[simp] theorem setExtAux_prevFlag (s : State) (a v : Word) : (s.setExtAux a v).prevFlag = s.prevFlag := rfl
@[simp] theorem setExtAux_prevSrStatusL (s : State) (a v : Word) : (s.setExtAux a v).prevSrStatusL = s.prevSrStatusL := rfl
@[simp] theorem setExtAux_haltShadow (s : State) (a v : Word) : (s.setExtAux a v).haltShadow = s.haltShadow := rfl
@[simp] theorem setExtAux_lpcAge (s : State) (a v : Word) : (s.setExtAux a v).lpcAge = s.lpcAge := rfl
@[simp] theorem setExtAux_lpseAge (s : State) (a v : Word) : (s.setExtAux a v).lpseAge = s.lpseAge := rfl
@[simp] theorem setExtAux_mulBusy (s : State) (a v : Word) : (s.setExtAux a v).mulBusy = s.mulBusy := rfl
@[simp] theorem setExtAux_singleStep (s : State) (a v : Word) : (s.setExtAux a v).singleStep = s.singleStep := rfl
@[simp] theorem setExtAux_pending (s : State) (a v : Word) : (s.setExtAux a v).pending = s.pending := rfl
@[simp] theorem setExtAux_draw (s : State) (a v : Word) : (s.setExtAux a v).draw = s.draw := rfl
@[simp] theorem setExtAux_mem (s : State) (a v : Word) : (s.setExtAux a v).mem = s.mem := rfl
@[simp] theorem setExtAux_cfg (s : State) (a v : Word) : (s.setExtAux a v).cfg = s.cfg := rfl

/-- Reading an extension auxiliary register after one was written. -/
theorem extAuxReg_setExtAux {s : State} {a : Word} (v b : Word) (hb : b ∈ s.cfg.extAux)
    (hl : s.auxExt.length = s.cfg.extAux.length) :
    (s.setExtAux a v).extAuxReg b = if b = a then v else s.extAuxReg b := by
  have hi : s.cfg.extAux.idxOf b < s.auxExt.length := hl ▸ List.idxOf_lt_length_of_mem hb
  have hj : s.cfg.extAux.idxOf a = s.cfg.extAux.idxOf b ↔ b = a :=
    ⟨fun h => (List.idxOf_inj hb).mp h.symm, fun h => h ▸ rfl⟩
  simp only [State.extAuxReg, State.setExtAux, List.getElem?_set, hj]
  split
  · rename_i h
    subst h
    simp [hi]
  · rfl

/-! ### auxWrite: only the auxiliary registers -/

theorem auxWrite_eq (s : State) (a v : Word) :
    s.auxWrite a v = { s with
      mulres := (s.auxWrite a v).mulres
      statusL1 := (s.auxWrite a v).statusL1
      statusL2 := (s.auxWrite a v).statusL2
      semCpu := (s.auxWrite a v).semCpu
      lpStart := (s.auxWrite a v).lpStart
      lpEnd := (s.auxWrite a v).lpEnd
      intVectorBase := (s.auxWrite a v).intVectorBase
      auxExt := (s.auxWrite a v).auxExt } := by
  unfold State.auxWrite; split <;> first | rfl | (cases s.cfg.hasMul64 <;> rfl) | (cases isExtAux s.cfg a <;> rfl)
@[simp] theorem auxWrite_regs (s : State) (a v : Word) : (s.auxWrite a v).regs = s.regs := by
  rw [auxWrite_eq]
@[simp] theorem auxWrite_lpCount (s : State) (a v : Word) : (s.auxWrite a v).lpCount = s.lpCount := by
  rw [auxWrite_eq]
@[simp] theorem auxWrite_pc (s : State) (a v : Word) : (s.auxWrite a v).pc = s.pc := by
  rw [auxWrite_eq]
@[simp] theorem auxWrite_flags (s : State) (a v : Word) : (s.auxWrite a v).flags = s.flags := by
  rw [auxWrite_eq]
@[simp] theorem auxWrite_e1 (s : State) (a v : Word) : (s.auxWrite a v).e1 = s.e1 := by
  rw [auxWrite_eq]
@[simp] theorem auxWrite_e2 (s : State) (a v : Word) : (s.auxWrite a v).e2 = s.e2 := by
  rw [auxWrite_eq]
@[simp] theorem auxWrite_h (s : State) (a v : Word) : (s.auxWrite a v).h = s.h := by
  rw [auxWrite_eq]
@[simp] theorem auxWrite_semHost (s : State) (a v : Word) : (s.auxWrite a v).semHost = s.semHost := by
  rw [auxWrite_eq]
@[simp] theorem auxWrite_sh (s : State) (a v : Word) : (s.auxWrite a v).sh = s.sh := by
  rw [auxWrite_eq]
@[simp] theorem auxWrite_bh (s : State) (a v : Word) : (s.auxWrite a v).bh = s.bh := by
  rw [auxWrite_eq]
@[simp] theorem auxWrite_zz (s : State) (a v : Word) : (s.auxWrite a v).zz = s.zz := by
  rw [auxWrite_eq]
@[simp] theorem auxWrite_loadSeen (s : State) (a v : Word) : (s.auxWrite a v).loadSeen = s.loadSeen := by
  rw [auxWrite_eq]
@[simp] theorem auxWrite_delayTarget (s : State) (a v : Word) : (s.auxWrite a v).delayTarget = s.delayTarget := by
  rw [auxWrite_eq]
@[simp] theorem auxWrite_prevDslot (s : State) (a v : Word) : (s.auxWrite a v).prevDslot = s.prevDslot := by
  rw [auxWrite_eq]
@[simp] theorem auxWrite_prevCmpBranch (s : State) (a v : Word) : (s.auxWrite a v).prevCmpBranch = s.prevCmpBranch := by
  rw [auxWrite_eq]
@[simp] theorem auxWrite_prevFlag (s : State) (a v : Word) : (s.auxWrite a v).prevFlag = s.prevFlag := by
  rw [auxWrite_eq]
@[simp] theorem auxWrite_prevSrStatusL (s : State) (a v : Word) : (s.auxWrite a v).prevSrStatusL = s.prevSrStatusL := by
  rw [auxWrite_eq]
@[simp] theorem auxWrite_haltShadow (s : State) (a v : Word) : (s.auxWrite a v).haltShadow = s.haltShadow := by
  rw [auxWrite_eq]
@[simp] theorem auxWrite_lpcAge (s : State) (a v : Word) : (s.auxWrite a v).lpcAge = s.lpcAge := by
  rw [auxWrite_eq]
@[simp] theorem auxWrite_lpseAge (s : State) (a v : Word) : (s.auxWrite a v).lpseAge = s.lpseAge := by
  rw [auxWrite_eq]
@[simp] theorem auxWrite_mulBusy (s : State) (a v : Word) : (s.auxWrite a v).mulBusy = s.mulBusy := by
  rw [auxWrite_eq]
@[simp] theorem auxWrite_singleStep (s : State) (a v : Word) : (s.auxWrite a v).singleStep = s.singleStep := by
  rw [auxWrite_eq]
@[simp] theorem auxWrite_pending (s : State) (a v : Word) : (s.auxWrite a v).pending = s.pending := by
  rw [auxWrite_eq]
@[simp] theorem auxWrite_draw (s : State) (a v : Word) : (s.auxWrite a v).draw = s.draw := by
  rw [auxWrite_eq]
@[simp] theorem auxWrite_mem (s : State) (a v : Word) : (s.auxWrite a v).mem = s.mem := by
  rw [auxWrite_eq]
@[simp] theorem auxWrite_cfg (s : State) (a v : Word) : (s.auxWrite a v).cfg = s.cfg := by
  rw [auxWrite_eq]

@[simp] theorem auxWrite_auxExt_length (s : State) (a v : Word) : (s.auxWrite a v).auxExt.length = s.auxExt.length := by
  unfold State.auxWrite
  split <;> first | rfl | (cases s.cfg.hasMul64 <;> rfl) | (cases isExtAux s.cfg a <;> simp [State.setExtAux])

/-! ### enter -/

theorem enter_eq (s : State) (lv : Level) (v : Nat) (ret : Word) :
    s.enter lv v ret = { s.enterClear with
      pc := s.vectorAddr v
      e1 := false
      regs := (s.enter lv v ret).regs
      e2 := (s.enter lv v ret).e2
      statusL1 := (s.enter lv v ret).statusL1
      statusL2 := (s.enter lv v ret).statusL2 } := by
  cases lv <;> rfl
@[simp] theorem enter_lpCount (s : State) (lv : Level) (v : Nat) (ret : Word) : (s.enter lv v ret).lpCount = s.lpCount := by
  rw [enter_eq]; rfl
@[simp] theorem enter_mulres (s : State) (lv : Level) (v : Nat) (ret : Word) : (s.enter lv v ret).mulres = s.mulres := by
  rw [enter_eq]; rfl
@[simp] theorem enter_pc (s : State) (lv : Level) (v : Nat) (ret : Word) : (s.enter lv v ret).pc = s.vectorAddr v := by
  rw [enter_eq]
@[simp] theorem enter_flags (s : State) (lv : Level) (v : Nat) (ret : Word) : (s.enter lv v ret).flags = s.flags := by
  rw [enter_eq]; rfl
@[simp] theorem enter_e1 (s : State) (lv : Level) (v : Nat) (ret : Word) : (s.enter lv v ret).e1 = false := by
  rw [enter_eq]
@[simp] theorem enter_h (s : State) (lv : Level) (v : Nat) (ret : Word) : (s.enter lv v ret).h = s.h := by
  rw [enter_eq]; rfl
@[simp] theorem enter_semCpu (s : State) (lv : Level) (v : Nat) (ret : Word) : (s.enter lv v ret).semCpu = s.semCpu := by
  rw [enter_eq]; rfl
@[simp] theorem enter_semHost (s : State) (lv : Level) (v : Nat) (ret : Word) : (s.enter lv v ret).semHost = s.semHost := by
  rw [enter_eq]; rfl
@[simp] theorem enter_lpStart (s : State) (lv : Level) (v : Nat) (ret : Word) : (s.enter lv v ret).lpStart = s.lpStart := by
  rw [enter_eq]; rfl
@[simp] theorem enter_lpEnd (s : State) (lv : Level) (v : Nat) (ret : Word) : (s.enter lv v ret).lpEnd = s.lpEnd := by
  rw [enter_eq]; rfl
@[simp] theorem enter_intVectorBase (s : State) (lv : Level) (v : Nat) (ret : Word) : (s.enter lv v ret).intVectorBase = s.intVectorBase := by
  rw [enter_eq]; rfl
@[simp] theorem enter_auxExt (s : State) (lv : Level) (v : Nat) (ret : Word) : (s.enter lv v ret).auxExt = s.auxExt := by
  rw [enter_eq]; rfl
@[simp] theorem enter_sh (s : State) (lv : Level) (v : Nat) (ret : Word) : (s.enter lv v ret).sh = s.sh := by
  rw [enter_eq]; rfl
@[simp] theorem enter_bh (s : State) (lv : Level) (v : Nat) (ret : Word) : (s.enter lv v ret).bh = s.bh := by
  rw [enter_eq]; rfl
@[simp] theorem enter_zz (s : State) (lv : Level) (v : Nat) (ret : Word) : (s.enter lv v ret).zz = s.zz := by
  rw [enter_eq]; rfl
@[simp] theorem enter_loadSeen (s : State) (lv : Level) (v : Nat) (ret : Word) : (s.enter lv v ret).loadSeen = s.loadSeen := by
  rw [enter_eq]; rfl
@[simp] theorem enter_delayTarget (s : State) (lv : Level) (v : Nat) (ret : Word) : (s.enter lv v ret).delayTarget = none := by
  rw [enter_eq]; rfl
@[simp] theorem enter_prevDslot (s : State) (lv : Level) (v : Nat) (ret : Word) : (s.enter lv v ret).prevDslot = false := by
  rw [enter_eq]; rfl
@[simp] theorem enter_prevCmpBranch (s : State) (lv : Level) (v : Nat) (ret : Word) : (s.enter lv v ret).prevCmpBranch = false := by
  rw [enter_eq]; rfl
@[simp] theorem enter_prevFlag (s : State) (lv : Level) (v : Nat) (ret : Word) : (s.enter lv v ret).prevFlag = false := by
  rw [enter_eq]; rfl
@[simp] theorem enter_prevSrStatusL (s : State) (lv : Level) (v : Nat) (ret : Word) : (s.enter lv v ret).prevSrStatusL = false := by
  rw [enter_eq]; rfl
@[simp] theorem enter_haltShadow (s : State) (lv : Level) (v : Nat) (ret : Word) : (s.enter lv v ret).haltShadow = s.haltShadow := by
  rw [enter_eq]; rfl
@[simp] theorem enter_lpcAge (s : State) (lv : Level) (v : Nat) (ret : Word) : (s.enter lv v ret).lpcAge = s.lpcAge := by
  rw [enter_eq]; rfl
@[simp] theorem enter_lpseAge (s : State) (lv : Level) (v : Nat) (ret : Word) : (s.enter lv v ret).lpseAge = s.lpseAge := by
  rw [enter_eq]; rfl
@[simp] theorem enter_mulBusy (s : State) (lv : Level) (v : Nat) (ret : Word) : (s.enter lv v ret).mulBusy = s.mulBusy := by
  rw [enter_eq]; rfl
@[simp] theorem enter_singleStep (s : State) (lv : Level) (v : Nat) (ret : Word) : (s.enter lv v ret).singleStep = s.singleStep := by
  rw [enter_eq]; rfl
@[simp] theorem enter_pending (s : State) (lv : Level) (v : Nat) (ret : Word) : (s.enter lv v ret).pending = s.pending := by
  rw [enter_eq]; rfl
@[simp] theorem enter_draw (s : State) (lv : Level) (v : Nat) (ret : Word) : (s.enter lv v ret).draw = s.draw + 1 := by
  rw [enter_eq]; rfl
@[simp] theorem enter_mem (s : State) (lv : Level) (v : Nat) (ret : Word) : (s.enter lv v ret).mem = s.mem := by
  rw [enter_eq]; rfl
@[simp] theorem enter_cfg (s : State) (lv : Level) (v : Nat) (ret : Word) : (s.enter lv v ret).cfg = s.cfg := by
  rw [enter_eq]; rfl
@[simp] theorem enter_one_regs (s : State) (v : Nat) (ret : Word) :
    (s.enter .one v ret).regs = s.regs.setIfInBounds 29 ret := rfl
@[simp] theorem enter_one_statusL1 (s : State) (v : Nat) (ret : Word) : (s.enter .one v ret).statusL1 = s.status32 &&& statusLMask := rfl
@[simp] theorem enter_one_statusL2 (s : State) (v : Nat) (ret : Word) : (s.enter .one v ret).statusL2 = s.statusL2 := rfl
@[simp] theorem enter_one_e2 (s : State) (v : Nat) (ret : Word) : (s.enter .one v ret).e2 = s.e2 := rfl
@[simp] theorem enter_two_regs (s : State) (v : Nat) (ret : Word) :
    (s.enter .two v ret).regs = s.regs.setIfInBounds 30 ret := rfl
@[simp] theorem enter_two_statusL1 (s : State) (v : Nat) (ret : Word) : (s.enter .two v ret).statusL1 = s.statusL1 := rfl
@[simp] theorem enter_two_statusL2 (s : State) (v : Nat) (ret : Word) : (s.enter .two v ret).statusL2 = s.status32 &&& statusLMask := rfl
@[simp] theorem enter_two_e2 (s : State) (v : Nat) (ret : Word) : (s.enter .two v ret).e2 = false := rfl

end Sys2Proof.Machine
end

