-- ==== Sys2Proof/Laws/Ops.lean ====
section
/-! SUPPORT. The shared operations, each once: that it completes when it meets no hazard, and everything it can do when it
answers a next state. Later proofs cite these and unfold no meaning. -/

namespace Sys2Proof.Machine

/-! ### The beginning and the end of an instruction -/

theorem State.NoHazard.start_eq {s : State} {l : Len} {o : Option Opt} (h : s.NoHazard l o) (k : Result) : s.start l o k = k := by
  have h3 : (o.any fun x => !s.cfg.has x) = false := by
    cases o with
    | none => rfl
    | some x => simp [h.option x rfl]
  have h2 : (s.prevDslot && l.limm) = false := by
    cases hp : s.prevDslot
    · rfl
    · simp [h.slot hp]
  simp [State.start, h.shadow, h3, h2]

theorem State.LoopReady.retire_eq {s : State} {l : Len} {c b : Bool} (h : s.LoopReady l c b) {e : Ending}
    (hc : e.wroteLpCount = c) (hb : e.wroteLoopBounds = b) (t : State) : s.retire l e t = .next (s.ended l e t) := by
  unfold State.retire
  cases ha : s.atLoopEnd l with
  | false => simp
  | true =>
    have ha' : s.npc l = s.lpEnd := by simpa [State.atLoopEnd] using ha
    obtain ⟨h1, h2⟩ := h.count ha'
    obtain ⟨h3, h4⟩ := h.bounds ha'
    subst hc hb
    have : ¬ s.nextLpcAge l e < 4 := by simp [State.nextLpcAge, h1]; omega
    have : ¬ s.nextLpseAge l e < 3 := by simp [State.nextLpseAge, h3]; omega
    simp [*]

theorem withValue_next {α : Type} {x : Except Refusal α} {k : α → Result} {t : State} (h : withValue x k = .next t) :
    ∃ a, x = .ok a ∧ k a = .next t := by
  cases x with
  | error r => cases h
  | ok a => exact ⟨a, rfl, h⟩

/-- What `start` can do: the Instruction Error of an absent option, or go on without a hazard. -/
theorem start_next {s t : State} {l : Len} {o : Option Opt} {k : Result} (h : s.start l o k = .next t) :
    (∃ x, o = some x ∧ s.cfg.has x = false ∧ s.haltShadow = 0 ∧ t = s.instructionError (s.pc + l.base)) ∨
      (s.NoHazard l o ∧ k = .next t) := by
  unfold State.start at h
  cases h1 : s.haltShadow != 0 with
  | true => simp [h1] at h
  | false =>
    have h0 : s.haltShadow = 0 := by simpa using h1
    cases h2 : o.any fun x => !s.cfg.has x with
    | true =>
      cases o with
      | none => cases h2
      | some x =>
        simp only [h1, h2, cond_false, cond_true] at h
        injection h with h
        exact .inl ⟨x, rfl, by simpa using h2, h0, h.symm⟩
    | false =>
      cases h3 : s.prevDslot && l.limm with
      | true => simp [h1, h2, h3] at h
      | false =>
        simp only [h1, h2, h3, cond_false] at h
        refine .inr ⟨⟨h0, fun hp => by simpa [hp] using h3, ?_⟩, h⟩
        rintro x rfl
        simpa using h2

/-- What `start` can do for an instruction that needs no option. -/
theorem start_none_next {s t : State} {l : Len} {k : Result} (h : s.start l none k = .next t) :
    s.NoHazard l none ∧ k = .next t := by
  obtain ⟨x, hx, -⟩ | h := start_next h
  · cases hx
  · exact h

/-- What `retire` can do. -/
theorem retire_next {s t u : State} {l : Len} {e : Ending} (h : s.retire l e t = .next u) :
    s.LoopReady l e.wroteLpCount e.wroteLoopBounds ∧ u = s.ended l e t := by
  unfold State.retire at h
  cases ha : s.atLoopEnd l with
  | false =>
    have hne : s.npc l ≠ s.lpEnd := by simpa [State.atLoopEnd] using ha
    simp only [ha, Bool.false_and, cond_false] at h
    injection h with h
    exact ⟨⟨fun x => absurd x hne, fun x => absurd x hne⟩, h.symm⟩
  | true =>
    cases hc : decide (s.nextLpcAge l e < 4) with
    | true => simp [ha, hc] at h
    | false =>
      cases hb : decide (s.nextLpseAge l e < 3) with
      | true => simp [ha, hc, hb] at h
      | false =>
        simp only [ha, hc, hb, Bool.and_false, cond_false] at h
        injection h with h
        have hc' : ¬ s.nextLpcAge l e < 4 := by simpa using hc
        have hb' : ¬ s.nextLpseAge l e < 3 := by simpa using hb
        refine ⟨⟨fun _ => ?_, fun _ => ?_⟩, h.symm⟩
        · cases hw : e.wroteLpCount <;> simp only [State.nextLpcAge, hw, cond_true, cond_false] at hc'
          · exact ⟨rfl, by omega⟩
          · omega
        · cases hw : e.wroteLoopBounds <;> simp only [State.nextLpseAge, hw, cond_true, cond_false] at hb'
          · exact ⟨rfl, by omega⟩
          · omega

/-! ### The formats -/

theorem genArgs_dest (form : GenForm) : (genArgs form).dest = some form.dest := by cases form <;> rfl
theorem genArgs_setFlags (form : GenForm) : (genArgs form).setFlags = form.setsFlags := by cases form <;> rfl
theorem movArgs_dest (form : MovForm) : (movArgs form).dest = some form.dest := by cases form <;> rfl
theorem movArgs_setFlags (form : MovForm) : (movArgs form).setFlags = form.setsFlags := by cases form <;> rfl
theorem movArgs_src1 (form : MovForm) : (movArgs form).src1 = none := by cases form <;> rfl
theorem sopArgs_dest (form : SopForm) : (sopArgs form).dest = some form.dest := by cases form <;> rfl
theorem sopArgs_setFlags (form : SopForm) : (sopArgs form).setFlags = form.setsFlags := by cases form <;> rfl
theorem sopArgs_src1 (form : SopForm) : (sopArgs form).src1 = none := by cases form <;> rfl
theorem sopArgs_cond (form : SopForm) : (sopArgs form).cond = none := by cases form <;> rfl
theorem cmpArgs_dest (form : CmpForm) : (cmpArgs form).dest = none := by cases form <;> rfl
theorem cmpArgs_setFlags (form : CmpForm) : (cmpArgs form).setFlags = true := by cases form <;> rfl
theorem lrArgs_dest (form : LrForm) : (lrArgs form).dest = some form.dest := by cases form <;> rfl

/-! ### Data instructions -/

theorem runData_completes {op : DataOp} {x : DataArgs} {s : State} {a b : Word} (hn : s.NoHazard x.len (dataNeeds op))
    (hl : s.LoopReady x.len (x.dest == some 60#6) false) (hc : s.condMet x.cond = true) (ha : s.value1 x = .ok a)
    (hb : s.value x.len 1 x.src2 = .ok b) :
    runData op x s = .next (s.ended x.len { wroteLpCount := x.dest == some 60#6 }
      { (s.afterReads x.sources).writeDest x.dest (dataEval op s.flags (bitAt (s.free 3) 0) a b).1 with
        flags := if x.setFlags = true then (dataEval op s.flags (bitAt (s.free 3) 0) a b).2 else s.flags }) := by
  rw [runData, hn.start_eq]
  simp only [hc, cond_true, ha, hb, withValue]
  rw [hl.retire_eq rfl rfl]
  cases x.setFlags <;> rfl

theorem runData_skips {op : DataOp} {x : DataArgs} {s : State} (hn : s.NoHazard x.len (dataNeeds op))
    (hl : s.LoopReady x.len false false) (hc : s.condMet x.cond = false) :
    runData op x s = .next (s.ended x.len {} s) := by
  rw [runData, hn.start_eq]
  simp only [hc, cond_false]
  rw [hl.retire_eq rfl rfl]

/-- What a data instruction can do. -/
theorem runData_next {op : DataOp} {x : DataArgs} {s t : State} (h : runData op x s = .next t) :
    (∃ o, dataNeeds op = some o ∧ s.cfg.has o = false ∧ s.haltShadow = 0 ∧ t = s.instructionError (s.pc + x.len.base)) ∨
    (s.condMet x.cond = false ∧ t = s.ended x.len {} s) ∨
    (s.condMet x.cond = true ∧ ∃ a b, s.value1 x = .ok a ∧ s.value x.len 1 x.src2 = .ok b ∧
      t = s.ended x.len { wroteLpCount := x.dest == some 60#6 }
        { (s.afterReads x.sources).writeDest x.dest (dataEval op s.flags (bitAt (s.free 3) 0) a b).1 with
          flags := if x.setFlags = true then (dataEval op s.flags (bitAt (s.free 3) 0) a b).2 else s.flags }) := by
  obtain h | ⟨-, h⟩ := start_next h
  · exact .inl h
  · right
    cases hc : s.condMet x.cond with
    | false =>
      simp only [hc, cond_false] at h
      exact .inl ⟨rfl, (retire_next h).2⟩
    | true =>
      simp only [hc, cond_true] at h
      obtain ⟨a, ha, h⟩ := withValue_next h
      obtain ⟨b, hb, h⟩ := withValue_next h
      refine .inr ⟨rfl, a, b, ha, hb, (retire_next h).2.trans ?_⟩
      cases x.setFlags <;> rfl

/-- What a multiply can do. -/
theorem runMul_next {sgn : Bool} {x : DataArgs} {s t : State} (h : runMul sgn x s = .next t) :
    (s.cfg.hasMul64 = false ∧ s.haltShadow = 0 ∧ t = s.instructionError (s.pc + x.len.base)) ∨
    (s.condMet x.cond = false ∧ t = s.ended x.len {} s) ∨
    (s.condMet x.cond = true ∧ ∃ a b, s.value1 x = .ok a ∧ s.value x.len 1 x.src2 = .ok b ∧
      t = s.ended x.len {} { s with mulres := mulEval sgn a b, mulBusy := true }) := by
  obtain ⟨o, ho, hf, hs, h⟩ | ⟨-, h⟩ := start_next h
  · obtain rfl := Option.some.inj ho
    exact .inl ⟨hf, hs, h⟩
  · right
    cases hc : s.condMet x.cond with
    | false =>
      simp only [hc, cond_false] at h
      exact .inl ⟨rfl, (retire_next h).2⟩
    | true =>
      simp only [hc, cond_true] at h
      obtain ⟨a, ha, h⟩ := withValue_next h
      obtain ⟨b, hb, h⟩ := withValue_next h
      exact .inr ⟨rfl, a, b, ha, hb, (retire_next h).2⟩

/-! ### Loads and stores -/

/-- What a load can do. -/
theorem runLoad_next {sgn : Bool} {dest : Reg} {x : MemArgs} {s t : State} (h : runLoad sgn dest x s = .next t) :
    dest ≠ 60#6 ∧ ∃ base off, s.value x.len 0 x.base = .ok base ∧ s.value x.len 1 x.offset = .ok off ∧
      isAligned x.size (effAddr x.size base off x.aa).1 = true ∧
      (s.validFrom .load (effAddr x.size base off x.aa).1 (sizeBytes x.size) = false ∧ t = s.memoryError (s.npc x.len) ∨
       s.validFrom .load (effAddr x.size base off x.aa).1 (sizeBytes x.size) = true ∧
        t = s.ended x.len { wroteLpCount := wbWritesLpCount x.wb (effAddr x.size base off x.aa).2 }
          { ((s.afterReads [x.base, x.offset]).writeBack x.wb (effAddr x.size base off x.aa).2).writeCore dest
              (extendLoad x.size sgn (s.readData x.size (effAddr x.size base off x.aa).1)) with
            loadSeen := true }) := by
  obtain ⟨-, h⟩ := start_none_next h
  cases hd : dest == 60#6 with
  | true => simp [hd] at h
  | false =>
    simp only [hd, cond_false] at h
    obtain ⟨base, hb, h⟩ := withValue_next h
    obtain ⟨off, ho, h⟩ := withValue_next h
    refine ⟨by simpa using hd, base, off, hb, ho, ?_⟩
    cases ha : isAligned x.size (effAddr x.size base off x.aa).1 with
    | false => simp [ha] at h
    | true =>
      refine ⟨rfl, ?_⟩
      cases hv : s.validFrom .load (effAddr x.size base off x.aa).1 (sizeBytes x.size) with
      | false =>
        simp only [ha, hv, Bool.not_true, Bool.not_false, cond_true, cond_false] at h
        injection h with h
        exact .inl ⟨rfl, h.symm⟩
      | true =>
        simp only [ha, hv, Bool.not_true, cond_false] at h
        exact .inr ⟨rfl, (retire_next h).2⟩

/-- What a store can do. -/
theorem runStore_next {data : Operand} {x : MemArgs} {s t : State} (h : runStore data x s = .next t) :
    ∃ base v off, s.value x.len 0 x.base = .ok base ∧ s.value x.len 1 data = .ok v ∧ s.value x.len 1 x.offset = .ok off ∧
      isAligned x.size (effAddr x.size base off x.aa).1 = true ∧
      (s.validFrom .store (effAddr x.size base off x.aa).1 (sizeBytes x.size) = false ∧ t = s.memoryError (s.npc x.len) ∨
       s.validFrom .store (effAddr x.size base off x.aa).1 (sizeBytes x.size) = true ∧
        t = s.ended x.len { wroteLpCount := wbWritesLpCount x.wb (effAddr x.size base off x.aa).2 }
          (((s.afterReads [x.base, data]).writeData x.size (effAddr x.size base off x.aa).1 v).writeBack x.wb
            (effAddr x.size base off x.aa).2)) := by
  obtain ⟨-, h⟩ := start_none_next h
  obtain ⟨base, hb, h⟩ := withValue_next h
  obtain ⟨v, hd, h⟩ := withValue_next h
  obtain ⟨off, ho, h⟩ := withValue_next h
  refine ⟨base, v, off, hb, hd, ho, ?_⟩
  cases ha : isAligned x.size (effAddr x.size base off x.aa).1 with
  | false => simp [ha] at h
  | true =>
    refine ⟨rfl, ?_⟩
    cases hv : s.validFrom .store (effAddr x.size base off x.aa).1 (sizeBytes x.size) with
    | false =>
      simp only [ha, hv, Bool.not_true, Bool.not_false, cond_true, cond_false] at h
      injection h with h
      exact .inl ⟨rfl, h.symm⟩
    | true =>
      simp only [ha, hv, Bool.not_true, cond_false] at h
      exact .inr ⟨rfl, (retire_next h).2⟩

/-! ### Control transfer -/

/-- What a branch or jump can do. -/
theorem runBranch_next {x : BranchArgs} {s t : State} (h : runBranch x s = .next t) :
    s.prevDslot = false ∧
    ((s.branchTaken x = .ok true ∧ ∃ target free, s.branchTarget x = .ok target ∧
        s.slotCheck x.len x.kind (some target) = .ok free ∧
        t = s.ended x.len
          { transfer := some (target, x.delayed), lpCountFree := free, dslotForm := x.delayed, cmpBranch := x.test.isCmp }
          (bif x.link then (s.afterReads (x.test.operands ++ x.target.operands)).writeCore rBLINK
              (s.linkValue x.len x.delayed)
            else s.afterReads (x.test.operands ++ x.target.operands))) ∨
     (s.branchTaken x = .ok false ∧
        t = s.ended x.len { dslotForm := x.delayed, cmpBranch := x.test.isCmp } (s.afterReads x.test.operands))) := by
  obtain ⟨-, h⟩ := start_none_next h
  cases hp : s.prevDslot with
  | true => simp [hp] at h
  | false =>
    refine ⟨rfl, ?_⟩
    simp only [hp, cond_false] at h
    obtain ⟨taken, ht, h⟩ := withValue_next h
    cases taken with
    | true =>
      obtain ⟨target, hg, h⟩ := withValue_next h
      obtain ⟨free, hf, h⟩ := withValue_next h
      exact .inl ⟨ht, target, free, hg, hf, (retire_next h).2⟩
    | false =>
      obtain ⟨-, -, h⟩ := withValue_next h
      exact .inr ⟨ht, (retire_next h).2⟩

/-- What a return from interrupt or exception can do. -/
theorem runReturn_next {form : JFForm} {s t : State} (h : runReturn form s = .next t) :
    s.prevDslot = false ∧ s.prevFlag = false ∧ s.prevSrStatusL = false ∧
    ((s.condMet (jfCond form) = true ∧ ∃ free,
        t = s.ended ⟨false, false⟩
          { transfer := some (s.returnTarget (jfLink2 form), jfDelayed form), lpCountFree := free,
            dslotForm := jfDelayed form }
          (s.restoreStatus (jfLink2 form))) ∨
     (s.condMet (jfCond form) = false ∧ t = s.ended ⟨false, false⟩ { dslotForm := jfDelayed form } s)) := by
  obtain ⟨-, h⟩ := start_none_next h
  cases hp : s.prevDslot with
  | true => simp [hp] at h
  | false =>
    cases hf : s.prevFlag with
    | true => simp [hp, hf] at h
    | false =>
      cases hs : s.prevSrStatusL with
      | true => simp [hp, hf, hs] at h
      | false =>
        refine ⟨rfl, rfl, rfl, ?_⟩
        simp only [hp, hf, hs, Bool.or_self, cond_false] at h
        cases hc : s.condMet (jfCond form) with
        | true =>
          simp only [hc, cond_true] at h
          obtain ⟨free, -, h⟩ := withValue_next h
          exact .inl ⟨rfl, free, (retire_next h).2⟩
        | false =>
          simp only [hc, cond_false] at h
          obtain ⟨-, -, h⟩ := withValue_next h
          exact .inr ⟨rfl, (retire_next h).2⟩

/-- What LP can do. -/
theorem runLp_next {form : LpForm} {s t : State} (h : runLp form s = .next t) :
    s.prevDslot = false ∧
    ((s.condMet (lpCond form) = true ∧
        t = s.ended ⟨false, false⟩ {} { s with lpStart := s.npc ⟨false, false⟩, lpEnd := s.pcl + lpDisp form }) ∨
     (s.condMet (lpCond form) = false ∧
        t = s.ended ⟨false, false⟩ { transfer := some (s.pcl + lpDisp form, false) } s)) := by
  obtain ⟨-, h⟩ := start_none_next h
  cases hp : s.prevDslot with
  | true => simp [hp] at h
  | false =>
    refine ⟨rfl, ?_⟩
    cases hb : s.lpBarred ⟨false, false⟩ with
    | true => simp [hp, hb] at h
    | false =>
      simp only [hp, hb, cond_false] at h
      cases hc : s.condMet (lpCond form) with
      | false =>
        simp only [hc, cond_false] at h
        exact .inr ⟨rfl, (retire_next h).2⟩
      | true =>
        simp only [hc, cond_true] at h
        cases hs : s.loopTooShort (s.npc ⟨false, false⟩) (s.pcl + lpDisp form) with
        | true => simp [hs] at h
        | false =>
          simp only [hs, cond_false] at h
          exact .inl ⟨rfl, (retire_next h).2⟩

/-! ### The system instructions -/

/-- What FLAG can do. -/
theorem runFlag_next {x : DataArgs} {s t : State} (h : runFlag x s = .next t) :
    (s.condMet x.cond = false ∧ t = s.ended x.len { wasFlag := true } s) ∨
    (s.condMet x.cond = true ∧ ∃ v, s.value x.len 1 x.src2 = .ok v ∧
      t = s.ended x.len { wasFlag := true }
        (bif bitAt v 0 then { s.afterReads [x.src2] with h := true, sh := true, haltShadow := 3 }
          else (s.afterReads [x.src2]).setStatus v)) := by
  obtain ⟨-, h⟩ := start_none_next h
  cases hc : s.condMet x.cond with
  | false =>
    simp only [hc, cond_false] at h
    exact .inl ⟨rfl, (retire_next h).2⟩
  | true =>
    simp only [hc, cond_true] at h
    obtain ⟨v, hv, h⟩ := withValue_next h
    exact .inr ⟨rfl, v, hv, (retire_next h).2⟩

/-- What LR can do. -/
theorem runLr_next {x : DataArgs} {s t : State} (h : runLr x s = .next t) :
    ∃ a, s.value x.len 1 x.src2 = .ok a ∧
      t = s.ended x.len { wroteLpCount := x.dest == some 60#6 }
        ((s.afterReads [x.src2]).writeDest x.dest (s.auxRead a)) := by
  obtain ⟨-, h⟩ := start_none_next h
  obtain ⟨a, ha, h⟩ := withValue_next h
  exact ⟨a, ha, (retire_next h).2⟩

/-- What SR can do. -/
theorem runSr_next {x : DataArgs} {s t : State} (h : runSr x s = .next t) :
    ∃ v a, s.value1 x = .ok v ∧ s.value x.len 1 x.src2 = .ok a ∧ s.srBarred x.len a = false ∧
      t = s.ended x.len { wroteLoopBounds := isLoopBound a, wasSrStatusL := a == 0xB#32 || a == 0xC#32 }
        ((s.afterReads x.sources).auxWrite a v) := by
  obtain ⟨-, h⟩ := start_none_next h
  obtain ⟨v, hv, h⟩ := withValue_next h
  obtain ⟨a, ha, h⟩ := withValue_next h
  cases hm : a == 0x12#32 && s.cfg.hasMul64 && (s.afterReads x.sources).mulBusy with
  | true => simp [hm] at h
  | false =>
    cases hb : s.srBarred x.len a with
    | true => simp [hm, hb] at h
    | false =>
      simp only [hm, hb, cond_false] at h
      exact ⟨v, a, hv, ha, hb, (retire_next h).2⟩

/-- What SLEEP can do. -/
theorem runSleep_next {l : Len} {s t : State} (h : runSleep l s = .next t) :
    s.prevCmpBranch = false ∧ t = s.ended l {} { s with zz := s.zz || !s.singleStep } := by
  obtain ⟨-, h⟩ := start_none_next h
  cases hp : s.prevCmpBranch with
  | true => simp [hp] at h
  | false =>
    simp only [hp, cond_false] at h
    exact ⟨rfl, (retire_next h).2⟩

/-- What SWI can do. -/
theorem runSwi_next {l : Len} {s t : State} (h : runSwi l s = .next t) :
    s.prevCmpBranch = false ∧ s.delayTarget = none ∧ t = s.instructionError (s.npc l) := by
  obtain ⟨-, h⟩ := start_none_next h
  cases hp : s.prevCmpBranch with
  | true => simp [hp] at h
  | false =>
    cases hd : s.delayTarget with
    | some x => simp [hp, hd] at h
    | none =>
      simp only [hp, hd, Option.isSome_none, cond_false] at h
      injection h with h
      exact ⟨rfl, rfl, h.symm⟩

/-- What BRK_S can do. -/
theorem runBreak_next {l : Len} {s t : State} (h : runBreak l s = .next t) :
    s.delayTarget = none ∧ t = { s with bh := true, h := true } := by
  obtain ⟨-, h⟩ := start_none_next h
  cases hd : s.delayTarget with
  | some x => simp [hd] at h
  | none =>
    simp only [hd, Option.isSome_none, cond_false] at h
    injection h with h
    exact ⟨rfl, h.symm⟩

/-- What NOP and NOP_S can do. -/
theorem runNop_next {l : Len} {s t : State} (h : runNop l s = .next t) :
    t = s.ended l {} { s with haltShadow := s.haltShadow - 1 } :=
  (retire_next h).2

/-! ### One step -/

/-- What a step can do: nothing in a halted or a sleeping core, an interrupt entry, an exception of the fetch or of a
reserved encoding, or one instruction. -/
theorem step_next {s t : State} (h : step s = .next t) :
    (s.h = true ∧ t = s) ∨
    (s.h = false ∧ ∃ line, s.interrupt = some line ∧ s.haltShadow = 0 ∧
      t = ({ s with zz := false } : State).enter line.level line.vector s.pc) ∨
    (s.h = false ∧ s.interrupt = none ∧ s.zz = true ∧ t = s) ∨
    (s.h = false ∧ s.interrupt = none ∧ s.zz = false ∧
      (t = s.memoryError s.pc ∨ (s.haltShadow = 0 ∧ t = s.instructionError (s.pc + s.baseAtPc)) ∨
        ∃ i, s.fetchInstr = some (.ok i) ∧ exec i s = .next t)) := by
  unfold step at h
  obtain hh | hh := Bool.eq_false_or_eq_true s.h
  · simp only [hh, cond_true] at h
    injection h with h
    exact .inl ⟨hh, h.symm⟩
  · right
    simp only [hh, cond_false] at h
    cases hi : s.interrupt with
    | some line =>
      simp only [hi, State.enterInterrupt] at h
      cases hs : s.haltShadow != 0 with
      | true => simp [hs] at h
      | false =>
        simp only [hs, cond_false] at h
        injection h with h
        exact .inl ⟨hh, line, rfl, by simpa using hs, h.symm⟩
    | none =>
      right
      simp only [hi] at h
      cases hz : s.zz with
      | true =>
        simp only [hz, cond_true] at h
        injection h with h
        exact .inl ⟨hh, rfl, rfl, h.symm⟩
      | false =>
        refine .inr ⟨hh, rfl, rfl, ?_⟩
        simp only [hz, cond_false, State.execAtPc] at h
        split at h
        · injection h with h; exact .inl h.symm
        · next i hf => exact .inr (.inr ⟨i, hf, h⟩)
        · simp only [State.reservedAtPc] at h
          cases hs : s.haltShadow != 0 with
          | true => simp [hs] at h
          | false =>
            simp only [hs, cond_false] at h
            injection h with h
            exact .inr (.inl ⟨by simpa using hs, h.symm⟩)
        · cases h
        · injection h with h; exact .inl h.symm

end Sys2Proof.Machine
end

