-- ==== Sys2Proof/Laws/PerInstr.lean ====
section
/-! SUPPORT. What is proved of every instruction, one lemma per constructor. -/

namespace Sys2Proof.Laws.RoundTripShape

/-- Reading an instruction as a format and back gives the instruction, and no other instruction has its format. -/
def Statement (i : Instr) : Prop := Instr.ofShape i.shape = i ∧ ∀ j : Instr, j.shape = i.shape → j = i

theorem of_rfl {i : Instr} (h : Instr.ofShape i.shape = i) : Statement i :=
  ⟨h, fun j hj => by rw [← Instr.ofShape_shape j, hj, h]⟩

theorem add (form : GenForm) : Statement (.add form) := of_rfl rfl
theorem adc (form : GenForm) : Statement (.adc form) := of_rfl rfl
theorem sub (form : GenForm) : Statement (.sub form) := of_rfl rfl
theorem sbc (form : GenForm) : Statement (.sbc form) := of_rfl rfl
theorem and (form : GenForm) : Statement (.and form) := of_rfl rfl
theorem or (form : GenForm) : Statement (.or form) := of_rfl rfl
theorem bic (form : GenForm) : Statement (.bic form) := of_rfl rfl
theorem xor (form : GenForm) : Statement (.xor form) := of_rfl rfl
theorem max (form : GenForm) : Statement (.max form) := of_rfl rfl
theorem min (form : GenForm) : Statement (.min form) := of_rfl rfl
theorem rsub (form : GenForm) : Statement (.rsub form) := of_rfl rfl
theorem bset (form : GenForm) : Statement (.bset form) := of_rfl rfl
theorem bclr (form : GenForm) : Statement (.bclr form) := of_rfl rfl
theorem bxor (form : GenForm) : Statement (.bxor form) := of_rfl rfl
theorem bmsk (form : GenForm) : Statement (.bmsk form) := of_rfl rfl
theorem add1 (form : GenForm) : Statement (.add1 form) := of_rfl rfl
theorem add2 (form : GenForm) : Statement (.add2 form) := of_rfl rfl
theorem add3 (form : GenForm) : Statement (.add3 form) := of_rfl rfl
theorem sub1 (form : GenForm) : Statement (.sub1 form) := of_rfl rfl
theorem sub2 (form : GenForm) : Statement (.sub2 form) := of_rfl rfl
theorem sub3 (form : GenForm) : Statement (.sub3 form) := of_rfl rfl
theorem mov (form : MovForm) : Statement (.mov form) := of_rfl rfl
theorem nop : Statement .nop := of_rfl rfl
theorem tst (form : CmpForm) : Statement (.tst form) := of_rfl rfl
theorem cmp (form : CmpForm) : Statement (.cmp form) := of_rfl rfl
theorem rcmp (form : CmpForm) : Statement (.rcmp form) := of_rfl rfl
theorem btst (form : CmpForm) : Statement (.btst form) := of_rfl rfl
theorem j (form : JForm) : Statement (.j form) := of_rfl rfl
theorem j_d (form : JDForm) : Statement (.j_d form) := of_rfl rfl
theorem jl (form : JForm) : Statement (.jl form) := of_rfl rfl
theorem jl_d (form : JDForm) : Statement (.jl_d form) := of_rfl rfl
theorem j_f (form : JFForm) : Statement (.j_f form) := of_rfl rfl
theorem lp (form : LpForm) : Statement (.lp form) := of_rfl rfl
theorem flag (form : JForm) : Statement (.flag form) := of_rfl rfl
theorem lr (form : LrForm) : Statement (.lr form) := of_rfl rfl
theorem sr (form : SrForm) : Statement (.sr form) := of_rfl rfl
theorem asl (form : SopForm) : Statement (.asl form) := of_rfl rfl
theorem asr (form : SopForm) : Statement (.asr form) := of_rfl rfl
theorem lsr (form : SopForm) : Statement (.lsr form) := of_rfl rfl
theorem ror (form : SopForm) : Statement (.ror form) := of_rfl rfl
theorem rrc (form : SopForm) : Statement (.rrc form) := of_rfl rfl
theorem sexb (form : SopForm) : Statement (.sexb form) := of_rfl rfl
theorem sexw (form : SopForm) : Statement (.sexw form) := of_rfl rfl
theorem extb (form : SopForm) : Statement (.extb form) := of_rfl rfl
theorem extw (form : SopForm) : Statement (.extw form) := of_rfl rfl
theorem abs (form : SopForm) : Statement (.abs form) := of_rfl rfl
theorem not (form : SopForm) : Statement (.not form) := of_rfl rfl
theorem rlc (form : SopForm) : Statement (.rlc form) := of_rfl rfl
theorem sleep : Statement .sleep := of_rfl rfl
theorem swi : Statement .swi := of_rfl rfl
theorem ld (form : LdForm) : Statement (.ld form) := of_rfl rfl
theorem ldb (x : Bool) (form : LdForm) : Statement (.ldb x form) := of_rfl rfl
theorem ldw (x : Bool) (form : LdForm) : Statement (.ldw x form) := of_rfl rfl
theorem asl_multi (form : GenForm) : Statement (.asl_multi form) := of_rfl rfl
theorem lsr_multi (form : GenForm) : Statement (.lsr_multi form) := of_rfl rfl
theorem asr_multi (form : GenForm) : Statement (.asr_multi form) := of_rfl rfl
theorem ror_multi (form : GenForm) : Statement (.ror_multi form) := of_rfl rfl
theorem mul64 (form : CmpForm) : Statement (.mul64 form) := of_rfl rfl
theorem mulu64 (form : CmpForm) : Statement (.mulu64 form) := of_rfl rfl
theorem swap (form : SopForm) : Statement (.swap form) := of_rfl rfl
theorem norm (form : SopForm) : Statement (.norm form) := of_rfl rfl
theorem normw (form : SopForm) : Statement (.normw form) := of_rfl rfl
theorem bcc (s : BitVec 20) (n : Bool) (q : BitVec 5) : Statement (.bcc s n q) := of_rfl rfl
theorem b_s25 (s : BitVec 24) (n : Bool) : Statement (.b_s25 s n) := of_rfl rfl
theorem blcc (s : BitVec 19) (n : Bool) (q : BitVec 5) : Statement (.blcc s n q) := of_rfl rfl
theorem bl (s : BitVec 23) (n : Bool) : Statement (.bl s n) := of_rfl rfl
theorem breq (form : BrForm) : Statement (.breq form) := of_rfl rfl
theorem brne (form : BrForm) : Statement (.brne form) := of_rfl rfl
theorem brlt (form : BrForm) : Statement (.brlt form) := of_rfl rfl
theorem brge (form : BrForm) : Statement (.brge form) := of_rfl rfl
theorem brlo (form : BrForm) : Statement (.brlo form) := of_rfl rfl
theorem brhs (form : BrForm) : Statement (.brhs form) := of_rfl rfl
theorem bbit0 (form : BrForm) : Statement (.bbit0 form) := of_rfl rfl
theorem bbit1 (form : BrForm) : Statement (.bbit1 form) := of_rfl rfl
theorem st_cbs9 (c : Reg) (b : Reg) (s : BitVec 9) (aa : BitVec 2) (di : Bool) (limm : Word) : Statement (.st_cbs9 c b s aa di limm) := of_rfl rfl
theorem stb_cbs9 (c : Reg) (b : Reg) (s : BitVec 9) (aa : BitVec 2) (di : Bool) (limm : Word) : Statement (.stb_cbs9 c b s aa di limm) := of_rfl rfl
theorem stw_cbs9 (c : Reg) (b : Reg) (s : BitVec 9) (aa : BitVec 2) (di : Bool) (limm : Word) : Statement (.stw_cbs9 c b s aa di limm) := of_rfl rfl
theorem ld_s_abc (a : Reg3) (b : Reg3) (c : Reg3) : Statement (.ld_s_abc a b c) := of_rfl rfl
theorem ldb_s_abc (a : Reg3) (b : Reg3) (c : Reg3) : Statement (.ldb_s_abc a b c) := of_rfl rfl
theorem ldw_s_abc (a : Reg3) (b : Reg3) (c : Reg3) : Statement (.ldw_s_abc a b c) := of_rfl rfl
theorem add_s_abc (a : Reg3) (b : Reg3) (c : Reg3) : Statement (.add_s_abc a b c) := of_rfl rfl
theorem add_s_cbu3 (c : Reg3) (b : Reg3) (u : BitVec 3) : Statement (.add_s_cbu3 c b u) := of_rfl rfl
theorem sub_s_cbu3 (c : Reg3) (b : Reg3) (u : BitVec 3) : Statement (.sub_s_cbu3 c b u) := of_rfl rfl
theorem asl_s_cbu3 (c : Reg3) (b : Reg3) (u : BitVec 3) : Statement (.asl_s_cbu3 c b u) := of_rfl rfl
theorem asr_s_cbu3 (c : Reg3) (b : Reg3) (u : BitVec 3) : Statement (.asr_s_cbu3 c b u) := of_rfl rfl
theorem add_s_bbh (b : Reg3) (h : Reg) (limm : Word) : Statement (.add_s_bbh b h limm) := of_rfl rfl
theorem mov_s_bh (b : Reg3) (h : Reg) (limm : Word) : Statement (.mov_s_bh b h limm) := of_rfl rfl
theorem cmp_s_bh (b : Reg3) (h : Reg) (limm : Word) : Statement (.cmp_s_bh b h limm) := of_rfl rfl
theorem mov_s_hb (h : Reg) (b : Reg3) : Statement (.mov_s_hb h b) := of_rfl rfl
theorem sub_s_bbc (b : Reg3) (c : Reg3) : Statement (.sub_s_bbc b c) := of_rfl rfl
theorem and_s_bbc (b : Reg3) (c : Reg3) : Statement (.and_s_bbc b c) := of_rfl rfl
theorem or_s_bbc (b : Reg3) (c : Reg3) : Statement (.or_s_bbc b c) := of_rfl rfl
theorem bic_s_bbc (b : Reg3) (c : Reg3) : Statement (.bic_s_bbc b c) := of_rfl rfl
theorem xor_s_bbc (b : Reg3) (c : Reg3) : Statement (.xor_s_bbc b c) := of_rfl rfl
theorem tst_s_bc (b : Reg3) (c : Reg3) : Statement (.tst_s_bc b c) := of_rfl rfl
theorem mul64_s_bc (b : Reg3) (c : Reg3) : Statement (.mul64_s_bc b c) := of_rfl rfl
theorem sexb_s_bc (b : Reg3) (c : Reg3) : Statement (.sexb_s_bc b c) := of_rfl rfl
theorem sexw_s_bc (b : Reg3) (c : Reg3) : Statement (.sexw_s_bc b c) := of_rfl rfl
theorem extb_s_bc (b : Reg3) (c : Reg3) : Statement (.extb_s_bc b c) := of_rfl rfl
theorem extw_s_bc (b : Reg3) (c : Reg3) : Statement (.extw_s_bc b c) := of_rfl rfl
theorem abs_s_bc (b : Reg3) (c : Reg3) : Statement (.abs_s_bc b c) := of_rfl rfl
theorem not_s_bc (b : Reg3) (c : Reg3) : Statement (.not_s_bc b c) := of_rfl rfl
theorem neg_s_bc (b : Reg3) (c : Reg3) : Statement (.neg_s_bc b c) := of_rfl rfl
theorem add1_s_bbc (b : Reg3) (c : Reg3) : Statement (.add1_s_bbc b c) := of_rfl rfl
theorem add2_s_bbc (b : Reg3) (c : Reg3) : Statement (.add2_s_bbc b c) := of_rfl rfl
theorem add3_s_bbc (b : Reg3) (c : Reg3) : Statement (.add3_s_bbc b c) := of_rfl rfl
theorem asl_s_bbc (b : Reg3) (c : Reg3) : Statement (.asl_s_bbc b c) := of_rfl rfl
theorem lsr_s_bbc (b : Reg3) (c : Reg3) : Statement (.lsr_s_bbc b c) := of_rfl rfl
theorem asr_s_bbc (b : Reg3) (c : Reg3) : Statement (.asr_s_bbc b c) := of_rfl rfl
theorem asl_s_bc (b : Reg3) (c : Reg3) : Statement (.asl_s_bc b c) := of_rfl rfl
theorem asr_s_bc (b : Reg3) (c : Reg3) : Statement (.asr_s_bc b c) := of_rfl rfl
theorem lsr_s_bc (b : Reg3) (c : Reg3) : Statement (.lsr_s_bc b c) := of_rfl rfl
theorem brk_s : Statement .brk_s := of_rfl rfl
theorem j_s_b (b : Reg3) : Statement (.j_s_b b) := of_rfl rfl
theorem j_s_d_b (b : Reg3) : Statement (.j_s_d_b b) := of_rfl rfl
theorem jl_s_b (b : Reg3) : Statement (.jl_s_b b) := of_rfl rfl
theorem jl_s_d_b (b : Reg3) : Statement (.jl_s_d_b b) := of_rfl rfl
theorem sub_s_ne (b : Reg3) : Statement (.sub_s_ne b) := of_rfl rfl
theorem nop_s : Statement .nop_s := of_rfl rfl
theorem jeq_s_blink : Statement .jeq_s_blink := of_rfl rfl
theorem jne_s_blink : Statement .jne_s_blink := of_rfl rfl
theorem j_s_blink : Statement .j_s_blink := of_rfl rfl
theorem j_s_d_blink : Statement .j_s_d_blink := of_rfl rfl
theorem ld_s_cbu7 (c : Reg3) (b : Reg3) (u : BitVec 5) : Statement (.ld_s_cbu7 c b u) := of_rfl rfl
theorem ldb_s_cbu5 (c : Reg3) (b : Reg3) (u : BitVec 5) : Statement (.ldb_s_cbu5 c b u) := of_rfl rfl
theorem ldw_s_cbu6 (c : Reg3) (b : Reg3) (u : BitVec 5) : Statement (.ldw_s_cbu6 c b u) := of_rfl rfl
theorem ldw_s_x_cbu6 (c : Reg3) (b : Reg3) (u : BitVec 5) : Statement (.ldw_s_x_cbu6 c b u) := of_rfl rfl
theorem st_s_cbu7 (c : Reg3) (b : Reg3) (u : BitVec 5) : Statement (.st_s_cbu7 c b u) := of_rfl rfl
theorem stb_s_cbu5 (c : Reg3) (b : Reg3) (u : BitVec 5) : Statement (.stb_s_cbu5 c b u) := of_rfl rfl
theorem stw_s_cbu6 (c : Reg3) (b : Reg3) (u : BitVec 5) : Statement (.stw_s_cbu6 c b u) := of_rfl rfl
theorem asl_s_bbu5 (b : Reg3) (u : BitVec 5) : Statement (.asl_s_bbu5 b u) := of_rfl rfl
theorem lsr_s_bbu5 (b : Reg3) (u : BitVec 5) : Statement (.lsr_s_bbu5 b u) := of_rfl rfl
theorem asr_s_bbu5 (b : Reg3) (u : BitVec 5) : Statement (.asr_s_bbu5 b u) := of_rfl rfl
theorem sub_s_bbu5 (b : Reg3) (u : BitVec 5) : Statement (.sub_s_bbu5 b u) := of_rfl rfl
theorem bset_s_bbu5 (b : Reg3) (u : BitVec 5) : Statement (.bset_s_bbu5 b u) := of_rfl rfl
theorem bclr_s_bbu5 (b : Reg3) (u : BitVec 5) : Statement (.bclr_s_bbu5 b u) := of_rfl rfl
theorem bmsk_s_bbu5 (b : Reg3) (u : BitVec 5) : Statement (.bmsk_s_bbu5 b u) := of_rfl rfl
theorem btst_s_bu5 (b : Reg3) (u : BitVec 5) : Statement (.btst_s_bu5 b u) := of_rfl rfl
theorem ld_s_bspu7 (b : Reg3) (u : BitVec 5) : Statement (.ld_s_bspu7 b u) := of_rfl rfl
theorem ldb_s_bspu7 (b : Reg3) (u : BitVec 5) : Statement (.ldb_s_bspu7 b u) := of_rfl rfl
theorem st_s_bspu7 (b : Reg3) (u : BitVec 5) : Statement (.st_s_bspu7 b u) := of_rfl rfl
theorem stb_s_bspu7 (b : Reg3) (u : BitVec 5) : Statement (.stb_s_bspu7 b u) := of_rfl rfl
theorem add_s_bspu7 (b : Reg3) (u : BitVec 5) : Statement (.add_s_bspu7 b u) := of_rfl rfl
theorem add_s_spspu7 (u : BitVec 5) : Statement (.add_s_spspu7 u) := of_rfl rfl
theorem sub_s_spspu7 (u : BitVec 5) : Statement (.sub_s_spspu7 u) := of_rfl rfl
theorem pop_s_b (b : Reg3) : Statement (.pop_s_b b) := of_rfl rfl
theorem pop_s_blink : Statement .pop_s_blink := of_rfl rfl
theorem push_s_b (b : Reg3) : Statement (.push_s_b b) := of_rfl rfl
theorem push_s_blink : Statement .push_s_blink := of_rfl rfl
theorem ld_s_r0gp (s : BitVec 9) : Statement (.ld_s_r0gp s) := of_rfl rfl
theorem ldb_s_r0gp (s : BitVec 9) : Statement (.ldb_s_r0gp s) := of_rfl rfl
theorem ldw_s_r0gp (s : BitVec 9) : Statement (.ldw_s_r0gp s) := of_rfl rfl
theorem add_s_r0gp (s : BitVec 9) : Statement (.add_s_r0gp s) := of_rfl rfl
theorem ld_s_bpclu10 (b : Reg3) (u : BitVec 8) : Statement (.ld_s_bpclu10 b u) := of_rfl rfl
theorem mov_s_bu8 (b : Reg3) (u : BitVec 8) : Statement (.mov_s_bu8 b u) := of_rfl rfl
theorem add_s_bbu7 (b : Reg3) (u : BitVec 7) : Statement (.add_s_bbu7 b u) := of_rfl rfl
theorem cmp_s_bu7 (b : Reg3) (u : BitVec 7) : Statement (.cmp_s_bu7 b u) := of_rfl rfl
theorem breq_s (b : Reg3) (s : BitVec 7) : Statement (.breq_s b s) := of_rfl rfl
theorem brne_s (b : Reg3) (s : BitVec 7) : Statement (.brne_s b s) := of_rfl rfl
theorem b_s (s : BitVec 9) : Statement (.b_s s) := of_rfl rfl
theorem beq_s (s : BitVec 9) : Statement (.beq_s s) := of_rfl rfl
theorem bne_s (s : BitVec 9) : Statement (.bne_s s) := of_rfl rfl
theorem bgt_s (s : BitVec 6) : Statement (.bgt_s s) := of_rfl rfl
theorem bge_s (s : BitVec 6) : Statement (.bge_s s) := of_rfl rfl
theorem blt_s (s : BitVec 6) : Statement (.blt_s s) := of_rfl rfl
theorem ble_s (s : BitVec 6) : Statement (.ble_s s) := of_rfl rfl
theorem bhi_s (s : BitVec 6) : Statement (.bhi_s s) := of_rfl rfl
theorem bhs_s (s : BitVec 6) : Statement (.bhs_s s) := of_rfl rfl
theorem blo_s (s : BitVec 6) : Statement (.blo_s s) := of_rfl rfl
theorem bls_s (s : BitVec 6) : Statement (.bls_s s) := of_rfl rfl
theorem bl_s (s : BitVec 11) : Statement (.bl_s s) := of_rfl rfl

end Sys2Proof.Laws.RoundTripShape
end

