-- ==== Sys2Proof/Tests/Slice0.lean ====
section
/-! SUPPORT. Tests: ill-formed terms that WellFormed refuses; a word of every encoding row, written out from the bit pattern of
spec/opcode_table.json, and what it decodes to; one-step vectors whose results are those of spec/96_derived_vectors.md; and a
state and operands that meet the hypotheses of every statement. -/

namespace Sys2Proof.Tests

open Machine

set_option Elab.async false

/-! ### WellFormed -/

theorem test_wf_accepts : (Instr.add (.abc true 1#6 62#6 3#6 5#32)).wf = true := by decide
theorem test_wf_unusedLimm : (Instr.add (.abc true 1#6 2#6 3#6 5#32)).wf = false := by decide
theorem test_wf_unusedLimm16 : (Instr.mov_s_bh 1#3 2#6 5#32).wf = false := by decide
theorem test_wf_loadToNull : (Instr.ld (.s9 62#6 2#6 0#9 0#2 false 0#32)).wf = false := by decide
theorem test_wf_loadToNullIndexed : (Instr.ldw true (.rr 62#6 2#6 3#6 0#2 false 0#32)).wf = false := by decide
theorem test_wf_scaledByteLoad : (Instr.ldb false (.s9 1#6 2#6 4#9 3#2 false 0#32)).wf = false := by decide
theorem test_wf_scaledByteStore : (Instr.stb_cbs9 1#6 2#6 4#9 3#2 false 0#32).wf = false := by decide
theorem test_wf_scaledHalfStore : (Instr.stw_cbs9 1#6 2#6 4#9 3#2 false 0#32).wf = true := by decide
theorem test_wf_writeBackToLimmLoad : (Instr.ld (.s9 1#6 62#6 4#9 1#2 false 5#32)).wf = false := by decide
theorem test_wf_writeBackToLimmStore : (Instr.st_cbs9 1#6 62#6 4#9 2#2 false 5#32).wf = false := by decide
theorem test_wf_delayedJumpLimm : (Instr.j_d (.c 62#6)).wf = false := by decide
theorem test_wf_delayedCondJumpLimm : (Instr.jl_d (.ccc 62#6 1#5)).wf = false := by decide
theorem test_wf_delayedCompareLimm : (Instr.breq (.bcs9 1#6 62#6 8#8 true 5#32)).wf = false := by decide
theorem test_wf_delayedCompareImmLimm : (Instr.bbit1 (.bu6s9 62#6 3#6 8#8 true 5#32)).wf = false := by decide
theorem test_wf_movSpelledNop : (Instr.mov (.bu6 false 62#6 0#6)).wf = false := by decide

/-! ### Decode -/

/-- Each list of half-words decodes to the instruction beside it. -/
def allDecode (l : List (List Half × Instr)) : Bool := l.all fun x => decide (decodeList x.1 = .ok x.2)

theorem test_decode_arith_1 : allDecode [
    ([0x2100#16, 0xD4D6#16], .add (.abc true 22#6 41#6 19#6 0#32)),
    ([0x2140#16, 0xD656#16], .add (.abu6 true 22#6 41#6 0x19#6 0#32)),
    ([0x2180#16, 0xD649#16], .add (.bbs12 true 41#6 0x259#12 0#32)),
    ([0x21C0#16, 0xD4CD#16], .add (.ccbbc true 41#6 19#6 0xD#5 0#32)),
    ([0x21C0#16, 0xD66D#16], .add (.ccbbu6 true 41#6 0x19#6 0xD#5 0#32)),
    ([0x2101#16, 0xD4D6#16], .adc (.abc true 22#6 41#6 19#6 0#32)),
    ([0x2141#16, 0xD656#16], .adc (.abu6 true 22#6 41#6 0x19#6 0#32)),
    ([0x2181#16, 0xD649#16], .adc (.bbs12 true 41#6 0x259#12 0#32)),
    ([0x21C1#16, 0xD4CD#16], .adc (.ccbbc true 41#6 19#6 0xD#5 0#32)),
    ([0x21C1#16, 0xD66D#16], .adc (.ccbbu6 true 41#6 0x19#6 0xD#5 0#32)),
    ([0x2102#16, 0xD4D6#16], .sub (.abc true 22#6 41#6 19#6 0#32)),
    ([0x2142#16, 0xD656#16], .sub (.abu6 true 22#6 41#6 0x19#6 0#32)),
    ([0x2182#16, 0xD649#16], .sub (.bbs12 true 41#6 0x259#12 0#32)),
    ([0x21C2#16, 0xD4CD#16], .sub (.ccbbc true 41#6 19#6 0xD#5 0#32)),
    ([0x21C2#16, 0xD66D#16], .sub (.ccbbu6 true 41#6 0x19#6 0xD#5 0#32)),
    ([0x2103#16, 0xD4D6#16], .sbc (.abc true 22#6 41#6 19#6 0#32)),
    ([0x2143#16, 0xD656#16], .sbc (.abu6 true 22#6 41#6 0x19#6 0#32)),
    ([0x2183#16, 0xD649#16], .sbc (.bbs12 true 41#6 0x259#12 0#32)),
    ([0x21C3#16, 0xD4CD#16], .sbc (.ccbbc true 41#6 19#6 0xD#5 0#32)),
    ([0x21C3#16, 0xD66D#16], .sbc (.ccbbu6 true 41#6 0x19#6 0xD#5 0#32))] = true := by decide +kernel

theorem test_decode_arith_2 : allDecode [
    ([0x2108#16, 0xD4D6#16], .max (.abc true 22#6 41#6 19#6 0#32)),
    ([0x2148#16, 0xD656#16], .max (.abu6 true 22#6 41#6 0x19#6 0#32)),
    ([0x2188#16, 0xD649#16], .max (.bbs12 true 41#6 0x259#12 0#32)),
    ([0x21C8#16, 0xD4CD#16], .max (.ccbbc true 41#6 19#6 0xD#5 0#32)),
    ([0x21C8#16, 0xD66D#16], .max (.ccbbu6 true 41#6 0x19#6 0xD#5 0#32)),
    ([0x2109#16, 0xD4D6#16], .min (.abc true 22#6 41#6 19#6 0#32)),
    ([0x2149#16, 0xD656#16], .min (.abu6 true 22#6 41#6 0x19#6 0#32)),
    ([0x2189#16, 0xD649#16], .min (.bbs12 true 41#6 0x259#12 0#32)),
    ([0x21C9#16, 0xD4CD#16], .min (.ccbbc true 41#6 19#6 0xD#5 0#32)),
    ([0x21C9#16, 0xD66D#16], .min (.ccbbu6 true 41#6 0x19#6 0xD#5 0#32)),
    ([0x210E#16, 0xD4D6#16], .rsub (.abc true 22#6 41#6 19#6 0#32)),
    ([0x214E#16, 0xD656#16], .rsub (.abu6 true 22#6 41#6 0x19#6 0#32)),
    ([0x218E#16, 0xD649#16], .rsub (.bbs12 true 41#6 0x259#12 0#32)),
    ([0x21CE#16, 0xD4CD#16], .rsub (.ccbbc true 41#6 19#6 0xD#5 0#32)),
    ([0x21CE#16, 0xD66D#16], .rsub (.ccbbu6 true 41#6 0x19#6 0xD#5 0#32)),
    ([0x2114#16, 0xD4D6#16], .add1 (.abc true 22#6 41#6 19#6 0#32)),
    ([0x2154#16, 0xD656#16], .add1 (.abu6 true 22#6 41#6 0x19#6 0#32)),
    ([0x2194#16, 0xD649#16], .add1 (.bbs12 true 41#6 0x259#12 0#32)),
    ([0x21D4#16, 0xD4CD#16], .add1 (.ccbbc true 41#6 19#6 0xD#5 0#32)),
    ([0x21D4#16, 0xD66D#16], .add1 (.ccbbu6 true 41#6 0x19#6 0xD#5 0#32))] = true := by decide +kernel

theorem test_decode_arith_3 : allDecode [
    ([0x2115#16, 0xD4D6#16], .add2 (.abc true 22#6 41#6 19#6 0#32)),
    ([0x2155#16, 0xD656#16], .add2 (.abu6 true 22#6 41#6 0x19#6 0#32)),
    ([0x2195#16, 0xD649#16], .add2 (.bbs12 true 41#6 0x259#12 0#32)),
    ([0x21D5#16, 0xD4CD#16], .add2 (.ccbbc true 41#6 19#6 0xD#5 0#32)),
    ([0x21D5#16, 0xD66D#16], .add2 (.ccbbu6 true 41#6 0x19#6 0xD#5 0#32)),
    ([0x2116#16, 0xD4D6#16], .add3 (.abc true 22#6 41#6 19#6 0#32)),
    ([0x2156#16, 0xD656#16], .add3 (.abu6 true 22#6 41#6 0x19#6 0#32)),
    ([0x2196#16, 0xD649#16], .add3 (.bbs12 true 41#6 0x259#12 0#32)),
    ([0x21D6#16, 0xD4CD#16], .add3 (.ccbbc true 41#6 19#6 0xD#5 0#32)),
    ([0x21D6#16, 0xD66D#16], .add3 (.ccbbu6 true 41#6 0x19#6 0xD#5 0#32)),
    ([0x2117#16, 0xD4D6#16], .sub1 (.abc true 22#6 41#6 19#6 0#32)),
    ([0x2157#16, 0xD656#16], .sub1 (.abu6 true 22#6 41#6 0x19#6 0#32)),
    ([0x2197#16, 0xD649#16], .sub1 (.bbs12 true 41#6 0x259#12 0#32)),
    ([0x21D7#16, 0xD4CD#16], .sub1 (.ccbbc true 41#6 19#6 0xD#5 0#32)),
    ([0x21D7#16, 0xD66D#16], .sub1 (.ccbbu6 true 41#6 0x19#6 0xD#5 0#32)),
    ([0x2118#16, 0xD4D6#16], .sub2 (.abc true 22#6 41#6 19#6 0#32)),
    ([0x2158#16, 0xD656#16], .sub2 (.abu6 true 22#6 41#6 0x19#6 0#32)),
    ([0x2198#16, 0xD649#16], .sub2 (.bbs12 true 41#6 0x259#12 0#32)),
    ([0x21D8#16, 0xD4CD#16], .sub2 (.ccbbc true 41#6 19#6 0xD#5 0#32)),
    ([0x21D8#16, 0xD66D#16], .sub2 (.ccbbu6 true 41#6 0x19#6 0xD#5 0#32))] = true := by decide +kernel

theorem test_decode_arith_4 : allDecode [
    ([0x2119#16, 0xD4D6#16], .sub3 (.abc true 22#6 41#6 19#6 0#32)),
    ([0x2159#16, 0xD656#16], .sub3 (.abu6 true 22#6 41#6 0x19#6 0#32)),
    ([0x2199#16, 0xD649#16], .sub3 (.bbs12 true 41#6 0x259#12 0#32)),
    ([0x21D9#16, 0xD4CD#16], .sub3 (.ccbbc true 41#6 19#6 0xD#5 0#32)),
    ([0x21D9#16, 0xD66D#16], .sub3 (.ccbbu6 true 41#6 0x19#6 0xD#5 0#32)),
    ([0x210C#16, 0xD4C0#16], .cmp (.bc 41#6 19#6 0#32)),
    ([0x214C#16, 0xD640#16], .cmp (.bu6 41#6 0x19#6 0#32)),
    ([0x218C#16, 0xD649#16], .cmp (.bs12 41#6 0x259#12 0#32)),
    ([0x21CC#16, 0xD4CD#16], .cmp (.ccbc 41#6 19#6 0xD#5 0#32)),
    ([0x21CC#16, 0xD66D#16], .cmp (.ccbu6 41#6 0x19#6 0xD#5 0#32)),
    ([0x210D#16, 0xD4C0#16], .rcmp (.bc 41#6 19#6 0#32)),
    ([0x214D#16, 0xD640#16], .rcmp (.bu6 41#6 0x19#6 0#32)),
    ([0x218D#16, 0xD649#16], .rcmp (.bs12 41#6 0x259#12 0#32)),
    ([0x21CD#16, 0xD4CD#16], .rcmp (.ccbc 41#6 19#6 0xD#5 0#32)),
    ([0x21CD#16, 0xD66D#16], .rcmp (.ccbu6 41#6 0x19#6 0xD#5 0#32)),
    ([0x212F#16, 0xD4C9#16], .abs (.bc true 41#6 19#6 0#32)),
    ([0x216F#16, 0xD649#16], .abs (.bu6 true 41#6 0x19#6)),
    ([0x63DD#16], .add_s_abc 5#3 3#3 6#3),
    ([0x6BC1#16], .add_s_cbu3 6#3 3#3 0x1#3),
    ([0x6BC9#16], .sub_s_cbu3 6#3 3#3 0x1#3)] = true := by decide +kernel

theorem test_decode_arith_5 : allDecode [
    ([0x73A5#16], .add_s_bbh 3#3 45#6 0#32),
    ([0x73B5#16], .cmp_s_bh 3#3 45#6 0#32),
    ([0x7BC2#16], .sub_s_bbc 3#3 6#3),
    ([0x7BD1#16], .abs_s_bc 3#3 6#3),
    ([0x7BD3#16], .neg_s_bc 3#3 6#3),
    ([0x7BD4#16], .add1_s_bbc 3#3 6#3),
    ([0x7BD5#16], .add2_s_bbc 3#3 6#3),
    ([0x7BD6#16], .add3_s_bbc 3#3 6#3),
    ([0x7BC0#16], .sub_s_ne 3#3),
    ([0xBB79#16], .sub_s_bbu5 3#3 0x19#5),
    ([0xC399#16], .add_s_bspu7 3#3 0x19#5),
    ([0xC0B9#16], .add_s_spspu7 0x19#5),
    ([0xC1B9#16], .sub_s_spspu7 0x19#5),
    ([0xCE59#16], .add_s_r0gp 0x59#9),
    ([0xE359#16], .add_s_bbu7 3#3 0x59#7),
    ([0xE3D9#16], .cmp_s_bu7 3#3 0x59#7)] = true := by decide +kernel

theorem test_decode_logic_1 : allDecode [
    ([0x2104#16, 0xD4D6#16], .and (.abc true 22#6 41#6 19#6 0#32)),
    ([0x2144#16, 0xD656#16], .and (.abu6 true 22#6 41#6 0x19#6 0#32)),
    ([0x2184#16, 0xD649#16], .and (.bbs12 true 41#6 0x259#12 0#32)),
    ([0x21C4#16, 0xD4CD#16], .and (.ccbbc true 41#6 19#6 0xD#5 0#32)),
    ([0x21C4#16, 0xD66D#16], .and (.ccbbu6 true 41#6 0x19#6 0xD#5 0#32)),
    ([0x2105#16, 0xD4D6#16], .or (.abc true 22#6 41#6 19#6 0#32)),
    ([0x2145#16, 0xD656#16], .or (.abu6 true 22#6 41#6 0x19#6 0#32)),
    ([0x2185#16, 0xD649#16], .or (.bbs12 true 41#6 0x259#12 0#32)),
    ([0x21C5#16, 0xD4CD#16], .or (.ccbbc true 41#6 19#6 0xD#5 0#32)),
    ([0x21C5#16, 0xD66D#16], .or (.ccbbu6 true 41#6 0x19#6 0xD#5 0#32)),
    ([0x2106#16, 0xD4D6#16], .bic (.abc true 22#6 41#6 19#6 0#32)),
    ([0x2146#16, 0xD656#16], .bic (.abu6 true 22#6 41#6 0x19#6 0#32)),
    ([0x2186#16, 0xD649#16], .bic (.bbs12 true 41#6 0x259#12 0#32)),
    ([0x21C6#16, 0xD4CD#16], .bic (.ccbbc true 41#6 19#6 0xD#5 0#32)),
    ([0x21C6#16, 0xD66D#16], .bic (.ccbbu6 true 41#6 0x19#6 0xD#5 0#32)),
    ([0x2107#16, 0xD4D6#16], .xor (.abc true 22#6 41#6 19#6 0#32)),
    ([0x2147#16, 0xD656#16], .xor (.abu6 true 22#6 41#6 0x19#6 0#32)),
    ([0x2187#16, 0xD649#16], .xor (.bbs12 true 41#6 0x259#12 0#32)),
    ([0x21C7#16, 0xD4CD#16], .xor (.ccbbc true 41#6 19#6 0xD#5 0#32)),
    ([0x21C7#16, 0xD66D#16], .xor (.ccbbu6 true 41#6 0x19#6 0xD#5 0#32))] = true := by decide +kernel

theorem test_decode_logic_2 : allDecode [
    ([0x210F#16, 0xD4D6#16], .bset (.abc true 22#6 41#6 19#6 0#32)),
    ([0x214F#16, 0xD656#16], .bset (.abu6 true 22#6 41#6 0x19#6 0#32)),
    ([0x218F#16, 0xD649#16], .bset (.bbs12 true 41#6 0x259#12 0#32)),
    ([0x21CF#16, 0xD4CD#16], .bset (.ccbbc true 41#6 19#6 0xD#5 0#32)),
    ([0x21CF#16, 0xD66D#16], .bset (.ccbbu6 true 41#6 0x19#6 0xD#5 0#32)),
    ([0x2110#16, 0xD4D6#16], .bclr (.abc true 22#6 41#6 19#6 0#32)),
    ([0x2150#16, 0xD656#16], .bclr (.abu6 true 22#6 41#6 0x19#6 0#32)),
    ([0x2190#16, 0xD649#16], .bclr (.bbs12 true 41#6 0x259#12 0#32)),
    ([0x21D0#16, 0xD4CD#16], .bclr (.ccbbc true 41#6 19#6 0xD#5 0#32)),
    ([0x21D0#16, 0xD66D#16], .bclr (.ccbbu6 true 41#6 0x19#6 0xD#5 0#32)),
    ([0x2112#16, 0xD4D6#16], .bxor (.abc true 22#6 41#6 19#6 0#32)),
    ([0x2152#16, 0xD656#16], .bxor (.abu6 true 22#6 41#6 0x19#6 0#32)),
    ([0x2192#16, 0xD649#16], .bxor (.bbs12 true 41#6 0x259#12 0#32)),
    ([0x21D2#16, 0xD4CD#16], .bxor (.ccbbc true 41#6 19#6 0xD#5 0#32)),
    ([0x21D2#16, 0xD66D#16], .bxor (.ccbbu6 true 41#6 0x19#6 0xD#5 0#32)),
    ([0x2113#16, 0xD4D6#16], .bmsk (.abc true 22#6 41#6 19#6 0#32)),
    ([0x2153#16, 0xD656#16], .bmsk (.abu6 true 22#6 41#6 0x19#6 0#32)),
    ([0x2193#16, 0xD649#16], .bmsk (.bbs12 true 41#6 0x259#12 0#32)),
    ([0x21D3#16, 0xD4CD#16], .bmsk (.ccbbc true 41#6 19#6 0xD#5 0#32)),
    ([0x21D3#16, 0xD66D#16], .bmsk (.ccbbu6 true 41#6 0x19#6 0xD#5 0#32))] = true := by decide +kernel

theorem test_decode_logic_3 : allDecode [
    ([0x210A#16, 0xD4C0#16], .mov (.bc true 41#6 19#6 0#32)),
    ([0x214A#16, 0xD640#16], .mov (.bu6 true 41#6 0x19#6)),
    ([0x218A#16, 0xD649#16], .mov (.bs12 true 41#6 0x259#12)),
    ([0x21CA#16, 0xD4CD#16], .mov (.ccbc true 41#6 19#6 0xD#5 0#32)),
    ([0x21CA#16, 0xD66D#16], .mov (.ccbu6 true 41#6 0x19#6 0xD#5)),
    ([0x210B#16, 0xD4C0#16], .tst (.bc 41#6 19#6 0#32)),
    ([0x214B#16, 0xD640#16], .tst (.bu6 41#6 0x19#6 0#32)),
    ([0x218B#16, 0xD649#16], .tst (.bs12 41#6 0x259#12 0#32)),
    ([0x21CB#16, 0xD4CD#16], .tst (.ccbc 41#6 19#6 0xD#5 0#32)),
    ([0x21CB#16, 0xD66D#16], .tst (.ccbu6 41#6 0x19#6 0xD#5 0#32)),
    ([0x2111#16, 0xD4C0#16], .btst (.bc 41#6 19#6 0#32)),
    ([0x2151#16, 0xD640#16], .btst (.bu6 41#6 0x19#6 0#32)),
    ([0x2191#16, 0xD649#16], .btst (.bs12 41#6 0x259#12 0#32)),
    ([0x21D1#16, 0xD4CD#16], .btst (.ccbc 41#6 19#6 0xD#5 0#32)),
    ([0x21D1#16, 0xD66D#16], .btst (.ccbu6 41#6 0x19#6 0xD#5 0#32)),
    ([0x212F#16, 0xD4C5#16], .sexb (.bc true 41#6 19#6 0#32)),
    ([0x216F#16, 0xD645#16], .sexb (.bu6 true 41#6 0x19#6)),
    ([0x212F#16, 0xD4C6#16], .sexw (.bc true 41#6 19#6 0#32)),
    ([0x216F#16, 0xD646#16], .sexw (.bu6 true 41#6 0x19#6)),
    ([0x212F#16, 0xD4C7#16], .extb (.bc true 41#6 19#6 0#32))] = true := by decide +kernel

theorem test_decode_logic_4 : allDecode [
    ([0x216F#16, 0xD647#16], .extb (.bu6 true 41#6 0x19#6)),
    ([0x212F#16, 0xD4C8#16], .extw (.bc true 41#6 19#6 0#32)),
    ([0x216F#16, 0xD648#16], .extw (.bu6 true 41#6 0x19#6)),
    ([0x212F#16, 0xD4CA#16], .not (.bc true 41#6 19#6 0#32)),
    ([0x216F#16, 0xD64A#16], .not (.bu6 true 41#6 0x19#6)),
    ([0x73AD#16], .mov_s_bh 3#3 45#6 0#32),
    ([0x73BD#16], .mov_s_hb 45#6 3#3),
    ([0x7BC4#16], .and_s_bbc 3#3 6#3),
    ([0x7BC5#16], .or_s_bbc 3#3 6#3),
    ([0x7BC6#16], .bic_s_bbc 3#3 6#3),
    ([0x7BC7#16], .xor_s_bbc 3#3 6#3),
    ([0x7BCB#16], .tst_s_bc 3#3 6#3),
    ([0x7BCD#16], .sexb_s_bc 3#3 6#3),
    ([0x7BCE#16], .sexw_s_bc 3#3 6#3),
    ([0x7BCF#16], .extb_s_bc 3#3 6#3),
    ([0x7BD0#16], .extw_s_bc 3#3 6#3),
    ([0x7BD2#16], .not_s_bc 3#3 6#3),
    ([0xBB99#16], .bset_s_bbu5 3#3 0x19#5),
    ([0xBBB9#16], .bclr_s_bbu5 3#3 0x19#5),
    ([0xBBD9#16], .bmsk_s_bbu5 3#3 0x19#5)] = true := by decide +kernel

theorem test_decode_logic_5 : allDecode [
    ([0xBBF9#16], .btst_s_bu5 3#3 0x19#5),
    ([0xDB59#16], .mov_s_bu8 3#3 0x59#8)] = true := by decide +kernel

theorem test_decode_system_1 : allDecode [
    ([0x264A#16, 0x7000#16], .nop),
    ([0x2029#16, 0x04C0#16], .flag (.c 19#6 0#32)),
    ([0x2069#16, 0x0640#16], .flag (.u6 0x19#6)),
    ([0x20A9#16, 0x0649#16], .flag (.s12 0x259#12)),
    ([0x20E9#16, 0x04CD#16], .flag (.ccc 19#6 0xD#5 0#32)),
    ([0x20E9#16, 0x066D#16], .flag (.ccu6 0x19#6 0xD#5)),
    ([0x212A#16, 0x54C0#16], .lr (.bc 41#6 19#6 0#32)),
    ([0x21AA#16, 0x5649#16], .lr (.bs12 41#6 0x259#12)),
    ([0x212B#16, 0x54C0#16], .sr (.bc 41#6 19#6 0#32)),
    ([0x21AB#16, 0x5649#16], .sr (.bs12 41#6 0x259#12 0#32)),
    ([0x216F#16, 0x003F#16], .sleep),
    ([0x226F#16, 0x003F#16], .swi),
    ([0x7FFF#16], .brk_s),
    ([0x78E0#16], .nop_s)] = true := by decide +kernel

theorem test_decode_control_1 : allDecode [
    ([0x2020#16, 0x04C0#16], .j (.c 19#6 0#32)),
    ([0x2060#16, 0x0640#16], .j (.u6 0x19#6)),
    ([0x20A0#16, 0x0649#16], .j (.s12 0x259#12)),
    ([0x20E0#16, 0x04CD#16], .j (.ccc 19#6 0xD#5 0#32)),
    ([0x20E0#16, 0x066D#16], .j (.ccu6 0x19#6 0xD#5)),
    ([0x2021#16, 0x04C0#16], .j_d (.c 19#6)),
    ([0x2061#16, 0x0640#16], .j_d (.u6 0x19#6)),
    ([0x20A1#16, 0x0649#16], .j_d (.s12 0x259#12)),
    ([0x20E1#16, 0x04CD#16], .j_d (.ccc 19#6 0xD#5)),
    ([0x20E1#16, 0x066D#16], .j_d (.ccu6 0x19#6 0xD#5)),
    ([0x2022#16, 0x04C0#16], .jl (.c 19#6 0#32)),
    ([0x2062#16, 0x0640#16], .jl (.u6 0x19#6)),
    ([0x20A2#16, 0x0649#16], .jl (.s12 0x259#12)),
    ([0x20E2#16, 0x04CD#16], .jl (.ccc 19#6 0xD#5 0#32)),
    ([0x20E2#16, 0x066D#16], .jl (.ccu6 0x19#6 0xD#5)),
    ([0x2023#16, 0x04C0#16], .jl_d (.c 19#6)),
    ([0x2063#16, 0x0640#16], .jl_d (.u6 0x19#6)),
    ([0x20A3#16, 0x0649#16], .jl_d (.s12 0x259#12)),
    ([0x20E3#16, 0x04CD#16], .jl_d (.ccc 19#6 0xD#5)),
    ([0x20E3#16, 0x066D#16], .jl_d (.ccu6 0x19#6 0xD#5))] = true := by decide +kernel

theorem test_decode_control_2 : allDecode [
    ([0x2020#16, 0x8780#16], .j_f (.c true false)),
    ([0x20E0#16, 0x878D#16], .j_f (.ccc true false 0xD#5)),
    ([0x20A8#16, 0x0649#16], .lp (.s13 0x259#12)),
    ([0x20E8#16, 0x066D#16], .lp (.ccu7 0x19#6 0xD#5)),
    ([0x04B2#16, 0x5B2D#16], .bcc 0x5B259#20 true 0xD#5),
    ([0x04B3#16, 0x5B29#16], .b_s25 0x95B259#24 true),
    ([0x0964#16, 0xB66D#16], .blcc 0x5B259#19 true 0xD#5),
    ([0x0966#16, 0xB662#16], .bl 0x15B259#23 true),
    ([0x09B3#16, 0x54E0#16], .breq (.bcs9 41#6 19#6 0x59#8 true 0#32)),
    ([0x09B3#16, 0x5670#16], .breq (.bu6s9 41#6 0x19#6 0x59#8 true 0#32)),
    ([0x09B3#16, 0x54E1#16], .brne (.bcs9 41#6 19#6 0x59#8 true 0#32)),
    ([0x09B3#16, 0x5671#16], .brne (.bu6s9 41#6 0x19#6 0x59#8 true 0#32)),
    ([0x09B3#16, 0x54E2#16], .brlt (.bcs9 41#6 19#6 0x59#8 true 0#32)),
    ([0x09B3#16, 0x5672#16], .brlt (.bu6s9 41#6 0x19#6 0x59#8 true 0#32)),
    ([0x09B3#16, 0x54E3#16], .brge (.bcs9 41#6 19#6 0x59#8 true 0#32)),
    ([0x09B3#16, 0x5673#16], .brge (.bu6s9 41#6 0x19#6 0x59#8 true 0#32)),
    ([0x09B3#16, 0x54E4#16], .brlo (.bcs9 41#6 19#6 0x59#8 true 0#32)),
    ([0x09B3#16, 0x5674#16], .brlo (.bu6s9 41#6 0x19#6 0x59#8 true 0#32)),
    ([0x09B3#16, 0x54E5#16], .brhs (.bcs9 41#6 19#6 0x59#8 true 0#32)),
    ([0x09B3#16, 0x5675#16], .brhs (.bu6s9 41#6 0x19#6 0x59#8 true 0#32))] = true := by decide +kernel

theorem test_decode_control_3 : allDecode [
    ([0x09B3#16, 0x54EE#16], .bbit0 (.bcs9 41#6 19#6 0x59#8 true 0#32)),
    ([0x09B3#16, 0x567E#16], .bbit0 (.bu6s9 41#6 0x19#6 0x59#8 true 0#32)),
    ([0x09B3#16, 0x54EF#16], .bbit1 (.bcs9 41#6 19#6 0x59#8 true 0#32)),
    ([0x09B3#16, 0x567F#16], .bbit1 (.bu6s9 41#6 0x19#6 0x59#8 true 0#32)),
    ([0x7B00#16], .j_s_b 3#3),
    ([0x7B20#16], .j_s_d_b 3#3),
    ([0x7B40#16], .jl_s_b 3#3),
    ([0x7B60#16], .jl_s_d_b 3#3),
    ([0x7CE0#16], .jeq_s_blink),
    ([0x7DE0#16], .jne_s_blink),
    ([0x7EE0#16], .j_s_blink),
    ([0x7FE0#16], .j_s_d_blink),
    ([0xEB59#16], .breq_s 3#3 0x59#7),
    ([0xEBD9#16], .brne_s 3#3 0x59#7),
    ([0xF059#16], .b_s 0x59#9),
    ([0xF259#16], .beq_s 0x59#9),
    ([0xF459#16], .bne_s 0x59#9),
    ([0xF619#16], .bgt_s 0x19#6),
    ([0xF659#16], .bge_s 0x19#6),
    ([0xF699#16], .blt_s 0x19#6)] = true := by decide +kernel

theorem test_decode_control_4 : allDecode [
    ([0xF6D9#16], .ble_s 0x19#6),
    ([0xF719#16], .bhi_s 0x19#6),
    ([0xF759#16], .bhs_s 0x19#6),
    ([0xF799#16], .blo_s 0x19#6),
    ([0xF7D9#16], .bls_s 0x19#6),
    ([0xFA59#16], .bl_s 0x259#11)] = true := by decide +kernel

theorem test_decode_shift_1 : allDecode [
    ([0x212F#16, 0xD4C0#16], .asl (.bc true 41#6 19#6 0#32)),
    ([0x216F#16, 0xD640#16], .asl (.bu6 true 41#6 0x19#6)),
    ([0x212F#16, 0xD4C1#16], .asr (.bc true 41#6 19#6 0#32)),
    ([0x216F#16, 0xD641#16], .asr (.bu6 true 41#6 0x19#6)),
    ([0x212F#16, 0xD4C2#16], .lsr (.bc true 41#6 19#6 0#32)),
    ([0x216F#16, 0xD642#16], .lsr (.bu6 true 41#6 0x19#6)),
    ([0x212F#16, 0xD4C3#16], .ror (.bc true 41#6 19#6 0#32)),
    ([0x216F#16, 0xD643#16], .ror (.bu6 true 41#6 0x19#6)),
    ([0x212F#16, 0xD4C4#16], .rrc (.bc true 41#6 19#6 0#32)),
    ([0x216F#16, 0xD644#16], .rrc (.bu6 true 41#6 0x19#6)),
    ([0x212F#16, 0xD4CB#16], .rlc (.bc true 41#6 19#6 0#32)),
    ([0x216F#16, 0xD64B#16], .rlc (.bu6 true 41#6 0x19#6)),
    ([0x2900#16, 0xD4D6#16], .asl_multi (.abc true 22#6 41#6 19#6 0#32)),
    ([0x2940#16, 0xD656#16], .asl_multi (.abu6 true 22#6 41#6 0x19#6 0#32)),
    ([0x2980#16, 0xD649#16], .asl_multi (.bbs12 true 41#6 0x259#12 0#32)),
    ([0x29C0#16, 0xD4CD#16], .asl_multi (.ccbbc true 41#6 19#6 0xD#5 0#32)),
    ([0x29C0#16, 0xD66D#16], .asl_multi (.ccbbu6 true 41#6 0x19#6 0xD#5 0#32)),
    ([0x2901#16, 0xD4D6#16], .lsr_multi (.abc true 22#6 41#6 19#6 0#32)),
    ([0x2941#16, 0xD656#16], .lsr_multi (.abu6 true 22#6 41#6 0x19#6 0#32)),
    ([0x2981#16, 0xD649#16], .lsr_multi (.bbs12 true 41#6 0x259#12 0#32))] = true := by decide +kernel

theorem test_decode_shift_2 : allDecode [
    ([0x29C1#16, 0xD4CD#16], .lsr_multi (.ccbbc true 41#6 19#6 0xD#5 0#32)),
    ([0x29C1#16, 0xD66D#16], .lsr_multi (.ccbbu6 true 41#6 0x19#6 0xD#5 0#32)),
    ([0x2902#16, 0xD4D6#16], .asr_multi (.abc true 22#6 41#6 19#6 0#32)),
    ([0x2942#16, 0xD656#16], .asr_multi (.abu6 true 22#6 41#6 0x19#6 0#32)),
    ([0x2982#16, 0xD649#16], .asr_multi (.bbs12 true 41#6 0x259#12 0#32)),
    ([0x29C2#16, 0xD4CD#16], .asr_multi (.ccbbc true 41#6 19#6 0xD#5 0#32)),
    ([0x29C2#16, 0xD66D#16], .asr_multi (.ccbbu6 true 41#6 0x19#6 0xD#5 0#32)),
    ([0x2903#16, 0xD4D6#16], .ror_multi (.abc true 22#6 41#6 19#6 0#32)),
    ([0x2943#16, 0xD656#16], .ror_multi (.abu6 true 22#6 41#6 0x19#6 0#32)),
    ([0x2983#16, 0xD649#16], .ror_multi (.bbs12 true 41#6 0x259#12 0#32)),
    ([0x29C3#16, 0xD4CD#16], .ror_multi (.ccbbc true 41#6 19#6 0xD#5 0#32)),
    ([0x29C3#16, 0xD66D#16], .ror_multi (.ccbbu6 true 41#6 0x19#6 0xD#5 0#32)),
    ([0x6BD1#16], .asl_s_cbu3 6#3 3#3 0x1#3),
    ([0x6BD9#16], .asr_s_cbu3 6#3 3#3 0x1#3),
    ([0x7BD8#16], .asl_s_bbc 3#3 6#3),
    ([0x7BD9#16], .lsr_s_bbc 3#3 6#3),
    ([0x7BDA#16], .asr_s_bbc 3#3 6#3),
    ([0x7BDB#16], .asl_s_bc 3#3 6#3),
    ([0x7BDC#16], .asr_s_bc 3#3 6#3),
    ([0x7BDD#16], .lsr_s_bc 3#3 6#3)] = true := by decide +kernel

theorem test_decode_shift_3 : allDecode [
    ([0xBB19#16], .asl_s_bbu5 3#3 0x19#5),
    ([0xBB39#16], .lsr_s_bbu5 3#3 0x19#5),
    ([0xBB59#16], .asr_s_bbu5 3#3 0x19#5)] = true := by decide +kernel

theorem test_decode_loadstore_1 : allDecode [
    ([0x2170#16, 0xD4D6#16], .ld (.rr 22#6 41#6 19#6 0x1#2 true 0#32)),
    ([0x2173#16, 0xD4D6#16], .ldb true (.rr 22#6 41#6 19#6 0x1#2 true 0#32)),
    ([0x2175#16, 0xD4D6#16], .ldw true (.rr 22#6 41#6 19#6 0x1#2 true 0#32)),
    ([0x1159#16, 0x5A16#16], .ld (.s9 22#6 41#6 0x59#9 0x1#2 true 0#32)),
    ([0x1159#16, 0x5AD6#16], .ldb true (.s9 22#6 41#6 0x59#9 0x1#2 true 0#32)),
    ([0x1159#16, 0x5B56#16], .ldw true (.s9 22#6 41#6 0x59#9 0x1#2 true 0#32)),
    ([0x1959#16, 0x54E8#16], .st_cbs9 19#6 41#6 0x59#9 0x1#2 true 0#32),
    ([0x1959#16, 0x54EA#16], .stb_cbs9 19#6 41#6 0x59#9 0x1#2 true 0#32),
    ([0x1959#16, 0x54EC#16], .stw_cbs9 19#6 41#6 0x59#9 0x1#2 true 0#32),
    ([0x63C5#16], .ld_s_abc 5#3 3#3 6#3),
    ([0x63CD#16], .ldb_s_abc 5#3 3#3 6#3),
    ([0x63D5#16], .ldw_s_abc 5#3 3#3 6#3),
    ([0x83D9#16], .ld_s_cbu7 6#3 3#3 0x19#5),
    ([0x8BD9#16], .ldb_s_cbu5 6#3 3#3 0x19#5),
    ([0x93D9#16], .ldw_s_cbu6 6#3 3#3 0x19#5),
    ([0x9BD9#16], .ldw_s_x_cbu6 6#3 3#3 0x19#5),
    ([0xA3D9#16], .st_s_cbu7 6#3 3#3 0x19#5),
    ([0xABD9#16], .stb_s_cbu5 6#3 3#3 0x19#5),
    ([0xB3D9#16], .stw_s_cbu6 6#3 3#3 0x19#5),
    ([0xC319#16], .ld_s_bspu7 3#3 0x19#5)] = true := by decide +kernel

theorem test_decode_loadstore_2 : allDecode [
    ([0xC339#16], .ldb_s_bspu7 3#3 0x19#5),
    ([0xC359#16], .st_s_bspu7 3#3 0x19#5),
    ([0xC379#16], .stb_s_bspu7 3#3 0x19#5),
    ([0xC3C1#16], .pop_s_b 3#3),
    ([0xC0D1#16], .pop_s_blink),
    ([0xC3E1#16], .push_s_b 3#3),
    ([0xC0F1#16], .push_s_blink),
    ([0xC859#16], .ld_s_r0gp 0x59#9),
    ([0xCA59#16], .ldb_s_r0gp 0x59#9),
    ([0xCC59#16], .ldw_s_r0gp 0x59#9),
    ([0xD359#16], .ld_s_bpclu10 3#3 0x59#8)] = true := by decide +kernel

theorem test_decode_extension_1 : allDecode [
    ([0x2904#16, 0x54C0#16], .mul64 (.bc 41#6 19#6 0#32)),
    ([0x2944#16, 0x5640#16], .mul64 (.bu6 41#6 0x19#6 0#32)),
    ([0x2984#16, 0x5649#16], .mul64 (.bs12 41#6 0x259#12 0#32)),
    ([0x29C4#16, 0x54CD#16], .mul64 (.ccbc 41#6 19#6 0xD#5 0#32)),
    ([0x29C4#16, 0x566D#16], .mul64 (.ccbu6 41#6 0x19#6 0xD#5 0#32)),
    ([0x2905#16, 0x54C0#16], .mulu64 (.bc 41#6 19#6 0#32)),
    ([0x2945#16, 0x5640#16], .mulu64 (.bu6 41#6 0x19#6 0#32)),
    ([0x2985#16, 0x5649#16], .mulu64 (.bs12 41#6 0x259#12 0#32)),
    ([0x29C5#16, 0x54CD#16], .mulu64 (.ccbc 41#6 19#6 0xD#5 0#32)),
    ([0x29C5#16, 0x566D#16], .mulu64 (.ccbu6 41#6 0x19#6 0xD#5 0#32)),
    ([0x292F#16, 0xD4C0#16], .swap (.bc true 41#6 19#6 0#32)),
    ([0x296F#16, 0xD640#16], .swap (.bu6 true 41#6 0x19#6)),
    ([0x292F#16, 0xD4C1#16], .norm (.bc true 41#6 19#6 0#32)),
    ([0x296F#16, 0xD641#16], .norm (.bu6 true 41#6 0x19#6)),
    ([0x292F#16, 0xD4C8#16], .normw (.bc true 41#6 19#6 0#32)),
    ([0x296F#16, 0xD648#16], .normw (.bu6 true 41#6 0x19#6)),
    ([0x7BCC#16], .mul64_s_bc 3#3 6#3)] = true := by decide +kernel

/-! ### One step -/

/-- A field of the state and a value for it. -/
inductive Item where
  | reg (n : Nat) (v : Word)
  | pc (v : Word)
  | z (b : Bool)
  | n (b : Bool)
  | c (b : Bool)
  | v (b : Bool)
  | e1 (b : Bool)
  | e2 (b : Bool)
  | h (b : Bool)
  | sh (b : Bool)
  | bh (b : Bool)
  | zz (b : Bool)
  | lpStart (v : Word)
  | lpEnd (v : Word)
  | base (v : Word)
  | statusL1 (v : Word)
  | statusL2 (v : Word)
  | mulres (v : BitVec 64)
  | target (v : Word)
  | noTarget
  | cmpBranch (b : Bool)
  | sem (cpu host : Word)
  | byte (a : Word) (b : Byte)

/-- The state with a field set. -/
def put (s : State) : Item → State
  | .reg n v => s.setReg n v
  | .pc v => { s with pc := v }
  | .z b => { s with flags := { s.flags with z := b } }
  | .n b => { s with flags := { s.flags with n := b } }
  | .c b => { s with flags := { s.flags with c := b } }
  | .v b => { s with flags := { s.flags with v := b } }
  | .e1 b => { s with e1 := b }
  | .e2 b => { s with e2 := b }
  | .h b => { s with h := b }
  | .sh b => { s with sh := b }
  | .bh b => { s with bh := b }
  | .zz b => { s with zz := b }
  | .lpStart v => { s with lpStart := v }
  | .lpEnd v => { s with lpEnd := v }
  | .base v => { s with intVectorBase := v }
  | .statusL1 v => { s with statusL1 := v }
  | .statusL2 v => { s with statusL2 := v }
  | .mulres v => { s with mulres := v }
  | .target v => { s with delayTarget := some v, prevDslot := true }
  | .noTarget => { s with delayTarget := none }
  | .cmpBranch b => { s with prevCmpBranch := b }
  | .sem p q => { s with semCpu := p, semHost := q }
  | .byte a b => s.writeByte a b

/-- Whether a field has the value. -/
def has (s : State) : Item → Bool
  | .reg n v => s.reg n == v
  | .pc v => s.pc == v
  | .z b => s.flags.z == b
  | .n b => s.flags.n == b
  | .c b => s.flags.c == b
  | .v b => s.flags.v == b
  | .e1 b => s.e1 == b
  | .e2 b => s.e2 == b
  | .h b => s.h == b
  | .sh b => s.sh == b
  | .bh b => s.bh == b
  | .zz b => s.zz == b
  | .lpStart v => s.lpStart == v
  | .lpEnd v => s.lpEnd == v
  | .base v => s.intVectorBase == v
  | .statusL1 v => s.statusL1 == v
  | .statusL2 v => s.statusL2 == v
  | .mulres v => s.mulres == v
  | .target v => s.delayTarget == some v
  | .noTarget => s.delayTarget == none
  | .cmpBranch b => s.prevCmpBranch == b
  | .sem p q => s.semCpu == p && s.semHost == q
  | .byte a b => s.readByte a == b

/-- The pc, the half-words placed there, what differs from the state after reset, and what the state after the step holds. -/
structure Vec where
  pc : Word
  halves : List Half
  pre : List Item
  post : List Item

/-- The state a vector starts in. -/
def Vec.start (x : Vec) : State := x.pre.foldl put (({ State.reset with pc := x.pc } : State).placeHalves x.pc x.halves)

/-- Each vector's step gives the state it says. -/
def allVectors (l : List Vec) : Bool :=
  l.all fun x =>
    match step x.start with
    | .next t => x.post.all (has t)
    | .fault f => nomatch f
    | .refused _ => false

/-- 96_derived_vectors.md: A4, A2, A14, A15, A20, A18, A21, A22, A36, A37, A38, A39. -/
theorem test_vectors_arith_1 : allVectors [
    ⟨0x100#32, [0x2200#16, 0x80C1#16],
      [.reg 2 0x80000000#32, .reg 3 0x80000000#32],
      [.reg 1 0x0#32, .z true, .n false, .c true, .v true]⟩,
    ⟨0x100#32, [0x2200#16, 0x80C1#16],
      [.reg 2 0x7FFFFFFF#32, .reg 3 0x1#32],
      [.reg 1 0x80000000#32, .z false, .n true, .c false, .v true]⟩,
    ⟨0x100#32, [0x2201#16, 0x80C1#16],
      [.reg 2 0xFFFFFFFF#32, .reg 3 0xFFFFFFFF#32, .c true],
      [.reg 1 0xFFFFFFFF#32, .z false, .n true, .c true, .v false]⟩,
    ⟨0x100#32, [0x2201#16, 0x80C1#16],
      [.reg 2 0x7FFFFFFF#32, .reg 3 0x0#32, .c true],
      [.reg 1 0x80000000#32, .z false, .n true, .c false, .v true]⟩,
    ⟨0x100#32, [0x2202#16, 0x80C1#16],
      [.reg 2 0x7FFFFFFF#32, .reg 3 0xFFFFFFFF#32],
      [.reg 1 0x80000000#32, .z false, .n true, .c true, .v true]⟩,
    ⟨0x100#32, [0x2202#16, 0x80C1#16],
      [.reg 2 0x0#32, .reg 3 0x1#32],
      [.reg 1 0xFFFFFFFF#32, .z false, .n true, .c true, .v false]⟩,
    ⟨0x100#32, [0x2203#16, 0x80C1#16],
      [.reg 2 0x0#32, .reg 3 0x0#32, .c true],
      [.reg 1 0xFFFFFFFF#32, .z false, .n true, .c true, .v false]⟩,
    ⟨0x100#32, [0x2203#16, 0x80C1#16],
      [.reg 2 0x80000000#32, .reg 3 0x7FFFFFFF#32, .c true],
      [.reg 1 0x0#32, .z true, .n false, .c false, .v true]⟩,
    ⟨0x100#32, [0x2208#16, 0x80C1#16],
      [.reg 2 0x5#32, .reg 3 0x5#32],
      [.reg 1 0x5#32, .z true, .n false, .c true, .v false]⟩,
    ⟨0x100#32, [0x2208#16, 0x80C1#16],
      [.reg 2 0x80000000#32, .reg 3 0x7FFFFFFF#32],
      [.reg 1 0x7FFFFFFF#32, .z false, .n false, .c true, .v true]⟩,
    ⟨0x100#32, [0x2209#16, 0x80C1#16],
      [.reg 2 0x80000000#32, .reg 3 0x7FFFFFFF#32],
      [.reg 1 0x80000000#32, .z false, .n false, .c false, .v true]⟩,
    ⟨0x100#32, [0x2209#16, 0x80C1#16],
      [.reg 2 0x3#32, .reg 3 0xFFFFFFFE#32],
      [.reg 1 0xFFFFFFFE#32, .z false, .n false, .c true, .v false]⟩] = true := by decide +kernel

/-- 96_derived_vectors.md: A25, A24, A30, A31, A32, A33, A34, A35, A26, A27, A29, A41. -/
theorem test_vectors_arith_2 : allVectors [
    ⟨0x100#32, [0x224E#16, 0x8001#16],
      [.reg 2 0x80000000#32],
      [.reg 1 0x80000000#32, .z false, .n true, .c true, .v true]⟩,
    ⟨0x100#32, [0x220E#16, 0x80C1#16],
      [.reg 2 0x5#32, .reg 3 0x3#32],
      [.reg 1 0xFFFFFFFE#32, .z false, .n true, .c true, .v false]⟩,
    ⟨0x100#32, [0x2214#16, 0x80C1#16],
      [.reg 2 0xFFFFFFFF#32, .reg 3 0x80000001#32],
      [.reg 1 0x1#32, .z false, .n false, .c true, .v false]⟩,
    ⟨0x100#32, [0x2215#16, 0x80C1#16],
      [.reg 2 0x7FFFFFFC#32, .reg 3 0x1#32],
      [.reg 1 0x80000000#32, .z false, .n true, .c false, .v true]⟩,
    ⟨0x100#32, [0x2216#16, 0x80C1#16],
      [.reg 2 0xFFFFFFF8#32, .reg 3 0x20000001#32],
      [.reg 1 0x0#32, .z true, .n false, .c true, .v false]⟩,
    ⟨0x100#32, [0x2217#16, 0x80C1#16],
      [.reg 2 0x0#32, .reg 3 0x80000001#32],
      [.reg 1 0xFFFFFFFE#32, .z false, .n true, .c true, .v false]⟩,
    ⟨0x100#32, [0x2218#16, 0x80C1#16],
      [.reg 2 0x80000000#32, .reg 3 0x1#32],
      [.reg 1 0x7FFFFFFC#32, .z false, .n false, .c false, .v true]⟩,
    ⟨0x100#32, [0x2219#16, 0x80C1#16],
      [.reg 2 0x8#32, .reg 3 0x1#32],
      [.reg 1 0x0#32, .z true, .n false, .c false, .v false]⟩,
    ⟨0x100#32, [0x22CC#16, 0x80C0#16],
      [.reg 2 0x80000000#32, .reg 3 0x7FFFFFFF#32],
      [.z false, .n false, .c false, .v true]⟩,
    ⟨0x100#32, [0x228C#16, 0x8FFF#16],
      [.reg 2 0xFFFFFFFF#32],
      [.z true, .n false, .c false, .v false]⟩,
    ⟨0x100#32, [0x22CD#16, 0x80C0#16],
      [.reg 2 0x5#32, .reg 3 0x3#32],
      [.z false, .n true, .c true, .v false]⟩,
    ⟨0x100#32, [0x212F#16, 0x8089#16],
      [.reg 2 0x80000001#32],
      [.reg 1 0x7FFFFFFF#32, .z false, .n false, .c true, .v false]⟩] = true := by decide +kernel

/-- 96_derived_vectors.md: A40, A44, A45, A53, A46, A47, A58, A54, A42, A43, A60, A62. -/
theorem test_vectors_arith_3 : allVectors [
    ⟨0x100#32, [0x212F#16, 0x8089#16],
      [.reg 2 0x7FFFFFFF#32],
      [.reg 1 0x7FFFFFFF#32, .z false, .n false, .c false, .v false]⟩,
    ⟨0x100#32, [0x6158#16],
      [.reg 1 0xFFFFFFFF#32, .reg 2 0x2#32, .z true],
      [.reg 0 0x1#32, .z true, .n false, .c false, .v false]⟩,
    ⟨0x100#32, [0x6947#16],
      [.reg 1 0xFFFFFFFC#32],
      [.reg 2 0x3#32, .z false, .n false, .c false, .v false]⟩,
    ⟨0x100#32, [0x694F#16],
      [.reg 1 0x3#32],
      [.reg 2 0xFFFFFFFC#32, .z false, .n false, .c false, .v false]⟩,
    ⟨0x100#32, [0x7182#16],
      [.reg 1 0x1#32, .reg 20 0x7FFFFFFF#32],
      [.reg 1 0x80000000#32, .z false, .n false, .c false, .v false]⟩,
    ⟨0x100#32, [0x71C7#16, 0xDEAD#16, 0xBEEF#16],
      [.reg 1 0x11111111#32],
      [.reg 1 0xEFBED000#32, .z false, .n false, .c false, .v false]⟩,
    ⟨0x100#32, [0x7192#16],
      [.reg 1 0x5#32, .reg 20 0x5#32],
      [.z true, .n false, .c false, .v false]⟩,
    ⟨0x100#32, [0x7942#16],
      [.reg 1 0x0#32, .reg 2 0x1#32],
      [.reg 1 0xFFFFFFFF#32, .z false, .n false, .c false, .v false]⟩,
    ⟨0x100#32, [0x7951#16],
      [.reg 2 0x80000000#32, .z true],
      [.reg 1 0x80000000#32, .z true, .n false, .c false, .v false]⟩,
    ⟨0x100#32, [0x7953#16],
      [.reg 2 0x80000000#32],
      [.reg 1 0x80000000#32, .z false, .n false, .c false, .v false]⟩,
    ⟨0x100#32, [0x7954#16],
      [.reg 1 0x1#32, .reg 2 0x80000001#32],
      [.reg 1 0x3#32, .z false, .n false, .c false, .v false]⟩,
    ⟨0x100#32, [0x7955#16],
      [.reg 1 0x4#32, .reg 2 0x3#32],
      [.reg 1 0x10#32, .z false, .n false, .c false, .v false]⟩] = true := by decide +kernel

/-- 96_derived_vectors.md: A61, A57, A56, A55, A48, A49, A50, A51, A52, A59. -/
theorem test_vectors_arith_4 : allVectors [
    ⟨0x100#32, [0x7956#16],
      [.reg 1 0x4#32, .reg 2 0x3#32],
      [.reg 1 0x1C#32, .z false, .n false, .c false, .v false]⟩,
    ⟨0x100#32, [0x79C0#16],
      [.reg 1 0x1234#32, .z true],
      [.z true, .n false, .c false, .v false]⟩,
    ⟨0x100#32, [0x79C0#16],
      [.reg 1 0x1234#32],
      [.reg 1 0x0#32, .z false, .n false, .c false, .v false]⟩,
    ⟨0x100#32, [0xB97F#16],
      [.reg 1 0x1F#32],
      [.reg 1 0x0#32, .z false, .n false, .c false, .v false]⟩,
    ⟨0x100#32, [0xC184#16],
      [.reg 28 0x1000#32],
      [.reg 1 0x1010#32, .z false, .n false, .c false, .v false]⟩,
    ⟨0x100#32, [0xC0A4#16],
      [.reg 28 0x1000#32],
      [.reg 28 0x1010#32, .z false, .n false, .c false, .v false]⟩,
    ⟨0x100#32, [0xC1A4#16],
      [.reg 28 0x1000#32],
      [.reg 28 0xFF0#32, .z false, .n false, .c false, .v false]⟩,
    ⟨0x100#32, [0xCFFF#16],
      [.reg 26 0x2000#32],
      [.reg 0 0x1FFC#32, .z false, .n false, .c false, .v false]⟩,
    ⟨0x100#32, [0xE164#16],
      [.reg 1 0xFFFFFFF0#32],
      [.reg 1 0x54#32, .z false, .n false, .c false, .v false]⟩,
    ⟨0x100#32, [0xE1E4#16],
      [.reg 1 0x63#32],
      [.z false, .n true, .c true, .v false]⟩] = true := by decide +kernel

/-- 96_derived_vectors.md: B1, B2, B3, B4, B5, B6, B7, B8, B25, B24, B26, B29. -/
theorem test_vectors_logic_1 : allVectors [
    ⟨0x100#32, [0x2204#16, 0x80C1#16],
      [.reg 2 0x80000001#32, .reg 3 0x80000000#32, .c true, .v true],
      [.reg 1 0x80000000#32, .z false, .n true, .c true, .v true]⟩,
    ⟨0x100#32, [0x2244#16, 0x80BE#16],
      [.reg 2 0x5#32],
      [.z true, .n false, .c false, .v false]⟩,
    ⟨0x100#32, [0x2205#16, 0x80C1#16],
      [.reg 2 0x0#32, .reg 3 0x0#32, .n true],
      [.reg 1 0x0#32, .z true, .n false, .c false, .v false]⟩,
    ⟨0x100#32, [0x2245#16, 0x0082#16],
      [.reg 2 0x1#32],
      [.reg 2 0x3#32, .z false, .n false, .c false, .v false]⟩,
    ⟨0x100#32, [0x2206#16, 0x80C1#16],
      [.reg 2 0xFF#32, .reg 3 0xFF#32],
      [.reg 1 0x0#32, .z true, .n false, .c false, .v false]⟩,
    ⟨0x100#32, [0x2146#16, 0x0101#16],
      [.reg 1 0xFFFFFFFF#32],
      [.reg 1 0xFFFFFFFB#32, .z false, .n false, .c false, .v false]⟩,
    ⟨0x100#32, [0x2147#16, 0x823E#16],
      [.reg 1 0x8#32],
      [.z true, .n false, .c false, .v false]⟩,
    ⟨0x100#32, [0x2287#16, 0x0FFF#16],
      [.reg 2 0xF0F0F0F#32],
      [.reg 2 0xF0F0F0F0#32, .z false, .n false, .c false, .v false]⟩,
    ⟨0x100#32, [0x224F#16, 0x87C1#16],
      [.reg 2 0x0#32],
      [.reg 1 0x80000000#32, .z false, .n true, .c false, .v false]⟩,
    ⟨0x100#32, [0x220F#16, 0x00C1#16],
      [.reg 2 0x0#32, .reg 3 0x20#32],
      [.reg 1 0x1#32, .z false, .n false, .c false, .v false]⟩,
    ⟨0x100#32, [0x2250#16, 0x8001#16],
      [.reg 2 0x1#32],
      [.reg 1 0x0#32, .z true, .n false, .c false, .v false]⟩,
    ⟨0x100#32, [0x2252#16, 0x87C1#16],
      [.reg 2 0x0#32],
      [.reg 1 0x80000000#32, .z false, .n true, .c false, .v false]⟩] = true := by decide +kernel

/-- 96_derived_vectors.md: B30, B31, B13, B16, B11, B27, B36, B40, B37, B38, B39, B9. -/
theorem test_vectors_logic_2 : allVectors [
    ⟨0x100#32, [0x2253#16, 0x07C1#16],
      [.reg 2 0xDEADBEEF#32],
      [.reg 1 0xDEADBEEF#32, .z false, .n false, .c false, .v false]⟩,
    ⟨0x100#32, [0x2253#16, 0x0001#16],
      [.reg 2 0xFFFFFFFF#32],
      [.reg 1 0x1#32, .z false, .n false, .c false, .v false]⟩,
    ⟨0x100#32, [0x21CA#16, 0x8080#16],
      [.reg 2 0x0#32, .n true, .c true],
      [.reg 1 0x0#32, .z true, .n false, .c true, .v false]⟩,
    ⟨0x100#32, [0x21CA#16, 0x0162#16],
      [.reg 1 0x9#32, .z true],
      [.reg 1 0x9#32, .z true, .n false, .c false, .v false]⟩,
    ⟨0x100#32, [0x22CB#16, 0x80C0#16],
      [.reg 2 0xFFFFFFFF#32, .reg 3 0x80000000#32, .c true],
      [.z false, .n true, .c true, .v false]⟩,
    ⟨0x100#32, [0x22D1#16, 0x80C0#16],
      [.reg 2 0x100#32, .reg 3 0x28#32],
      [.z false, .n false, .c false, .v false]⟩,
    ⟨0x100#32, [0x212F#16, 0x8085#16],
      [.reg 2 0x80#32],
      [.reg 1 0xFFFFFF80#32, .z false, .n true, .c false, .v false]⟩,
    ⟨0x100#32, [0x216F#16, 0x0FC5#16],
      [],
      [.reg 1 0x3F#32, .z false, .n false, .c false, .v false]⟩,
    ⟨0x100#32, [0x212F#16, 0x8086#16],
      [.reg 2 0xFFFF7FFF#32],
      [.reg 1 0x7FFF#32, .z false, .n false, .c false, .v false]⟩,
    ⟨0x100#32, [0x212F#16, 0x8087#16],
      [.reg 2 0xFFFFFF80#32],
      [.reg 1 0x80#32, .z false, .n false, .c false, .v false]⟩,
    ⟨0x100#32, [0x212F#16, 0x8088#16],
      [.reg 2 0x80000000#32],
      [.reg 1 0x0#32, .z true, .n false, .c false, .v false]⟩,
    ⟨0x100#32, [0x212F#16, 0x808A#16],
      [.reg 2 0xFFFFFFFF#32],
      [.reg 1 0x0#32, .z true, .n false, .c false, .v false]⟩] = true := by decide +kernel

/-- 96_derived_vectors.md: B10, B21, B22, B43, B44, B45, B46, B12, B48, B42, B41, B49. -/
theorem test_vectors_logic_3 : allVectors [
    ⟨0x100#32, [0x212F#16, 0x808A#16],
      [.reg 2 0x0#32],
      [.reg 1 0xFFFFFFFF#32, .z false, .n true, .c false, .v false]⟩,
    ⟨0x100#32, [0x718A#16],
      [.reg 20 0xCAFEF00D#32],
      [.reg 1 0xCAFEF00D#32, .z false, .n false, .c false, .v false]⟩,
    ⟨0x100#32, [0x719A#16],
      [.reg 1 0xCAFEF00D#32],
      [.reg 20 0xCAFEF00D#32, .z false, .n false, .c false, .v false]⟩,
    ⟨0x100#32, [0x7944#16],
      [.reg 1 0xFF00FF00#32, .reg 2 0xFF00FF0#32, .z true],
      [.reg 1 0xF000F00#32, .z true, .n false, .c false, .v false]⟩,
    ⟨0x100#32, [0x7945#16],
      [.reg 1 0xFF00FF00#32, .reg 2 0xFF00FF0#32],
      [.reg 1 0xFFF0FFF0#32, .z false, .n false, .c false, .v false]⟩,
    ⟨0x100#32, [0x7946#16],
      [.reg 1 0xFF00FF00#32, .reg 2 0xFF00FF0#32],
      [.reg 1 0xF000F000#32, .z false, .n false, .c false, .v false]⟩,
    ⟨0x100#32, [0x7947#16],
      [.reg 1 0xFF00FF00#32, .reg 2 0xFF00FF0#32],
      [.reg 1 0xF0F0F0F0#32, .z false, .n false, .c false, .v false]⟩,
    ⟨0x100#32, [0x794B#16],
      [.reg 1 0xF0#32, .reg 2 0xF#32, .n true, .v true],
      [.z true, .n false, .c false, .v true]⟩,
    ⟨0x100#32, [0x794D#16],
      [.reg 2 0x12345680#32],
      [.reg 1 0xFFFFFF80#32, .z false, .n false, .c false, .v false]⟩,
    ⟨0x100#32, [0x794E#16],
      [.reg 2 0x1234ABCD#32],
      [.reg 1 0xFFFFABCD#32, .z false, .n false, .c false, .v false]⟩,
    ⟨0x100#32, [0x794F#16],
      [.reg 2 0x1234ABCD#32],
      [.reg 1 0xCD#32, .z false, .n false, .c false, .v false]⟩,
    ⟨0x100#32, [0x7950#16],
      [.reg 2 0x1234ABCD#32],
      [.reg 1 0xABCD#32, .z false, .n false, .c false, .v false]⟩] = true := by decide +kernel

/-- 96_derived_vectors.md: B47, B33, B34, B35, B28, B23. -/
theorem test_vectors_logic_4 : allVectors [
    ⟨0x100#32, [0x7952#16],
      [.reg 2 0x0#32],
      [.reg 1 0xFFFFFFFF#32, .z false, .n false, .c false, .v false]⟩,
    ⟨0x100#32, [0xB985#16],
      [.reg 1 0x0#32],
      [.reg 1 0x20#32, .z false, .n false, .c false, .v false]⟩,
    ⟨0x100#32, [0xB9A5#16],
      [.reg 1 0xFF#32],
      [.reg 1 0xDF#32, .z false, .n false, .c false, .v false]⟩,
    ⟨0x100#32, [0xB9C8#16],
      [.reg 1 0xFFFFFFFF#32],
      [.reg 1 0x1FF#32, .z false, .n false, .c false, .v false]⟩,
    ⟨0x100#32, [0xB9E5#16],
      [.reg 1 0x20#32, .z true],
      [.z false, .n false, .c false, .v false]⟩,
    ⟨0x100#32, [0xD9FF#16],
      [.reg 1 0xFFFFFFFF#32, .n true],
      [.reg 1 0xFF#32, .z false, .n true, .c false, .v false]⟩] = true := by decide +kernel

/-- 96_derived_vectors.md: B20, F30, F8, F3, Y2, Y3, Y37, Y20, F22, F20, F23, F31. -/
theorem test_vectors_system_1 : allVectors [
    ⟨0x100#32, [0x264A#16, 0x7000#16],
      [.z true, .c true],
      [.z true, .n false, .c true, .v false]⟩,
    ⟨0x100#32, [0x264A#16, 0x7000#16],
      [.z true, .n true],
      [.pc 0x104#32]⟩,
    ⟨0x100#32, [0x20E9#16, 0x0042#16],
      [.reg 1 0xF00#32],
      [.pc 0x104#32, .z true, .n true, .c true, .v true]⟩,
    ⟨0x100#32, [0x20A9#16, 0x0004#16],
      [.z true],
      [.pc 0x104#32, .z false, .v true]⟩,
    ⟨0x100#32, [0x21AA#16, 0x0100#16],
      [],
      [.reg 1 0x21#32, .pc 0x104#32]⟩,
    ⟨0x1236#32, [0x21AA#16, 0x0180#16],
      [],
      [.reg 1 0x1236#32, .pc 0x123A#32]⟩,
    ⟨0x100#32, [0x22AB#16, 0x0480#16],
      [.mulres 0x1111111122223333#64, .reg 2 0xAABBCCDD#32],
      [.pc 0x104#32, .mulres 0xAABBCCDD22223333#64]⟩,
    ⟨0x100#32, [0x21AB#16, 0x0940#16],
      [.reg 1 0x12345#32],
      [.pc 0x104#32, .base 0x12000#32]⟩,
    ⟨0x100#32, [0x216F#16, 0x003F#16],
      [.target 0x400#32],
      [.pc 0x400#32, .zz true, .noTarget]⟩,
    ⟨0x100#32, [0x216F#16, 0x003F#16],
      [],
      [.pc 0x104#32, .zz true]⟩,
    ⟨0x200#32, [0x226F#16, 0x003F#16],
      [.z true, .e2 true, .e1 true],
      [.reg 30 0x204#32, .pc 0x10#32, .e2 false, .e1 false, .statusL2 0x806#32]⟩,
    ⟨0x200#32, [0x226F#16, 0x817F#16],
      [.e1 true],
      [.reg 30 0x204#32, .pc 0x10#32, .e1 false, .statusL2 0x2#32]⟩] = true := by decide +kernel

/-- 96_derived_vectors.md: F27, F29. -/
theorem test_vectors_system_2 : allVectors [
    ⟨0x10C#32, [0x7FFF#16],
      [.z true],
      [.h true, .bh true]⟩,
    ⟨0x100#32, [0x78E0#16],
      [.z true, .n true],
      [.pc 0x102#32]⟩] = true := by decide +kernel

/-- 96_derived_vectors.md: J1, J2, J3, J17, J21, J18, J19, J8, J9, J30, J31, C5. -/
theorem test_vectors_control_1 : allVectors [
    ⟨0x800#32, [0x2020#16, 0x0040#16],
      [.reg 1 0x3001#32],
      [.pc 0x3000#32]⟩,
    ⟨0x800#32, [0x20E0#16, 0x0041#16],
      [.reg 1 0x3000#32],
      [.pc 0x804#32]⟩,
    ⟨0x800#32, [0x2021#16, 0x0040#16],
      [.reg 1 0x3000#32, .byte 0x804#32 0xE0#8, .byte 0x805#32 0x78#8],
      [.pc 0x804#32, .target 0x3000#32]⟩,
    ⟨0x800#32, [0x2022#16, 0x0080#16],
      [.reg 2 0x3000#32],
      [.pc 0x3000#32, .reg 31 0x804#32]⟩,
    ⟨0x800#32, [0x2022#16, 0x0F80#16, 0x1234#16, 0x5678#16],
      [],
      [.pc 0x12345678#32, .reg 31 0x808#32]⟩,
    ⟨0x800#32, [0x2023#16, 0x0080#16],
      [.reg 2 0x3000#32, .byte 0x804#32 0x4A#8, .byte 0x805#32 0x26#8, .byte 0x806#32 0x00#8, .byte 0x807#32 0x70#8],
      [.pc 0x804#32, .target 0x3000#32, .reg 31 0x808#32]⟩,
    ⟨0x800#32, [0x2023#16, 0x0080#16],
      [.reg 2 0x3000#32, .byte 0x804#32 0xE0#8, .byte 0x805#32 0x78#8],
      [.pc 0x804#32, .target 0x3000#32, .reg 31 0x806#32]⟩,
    ⟨0x800#32, [0x2020#16, 0x8740#16],
      [.reg 29 0x1234#32, .n true, .v true, .statusL1 0xA06#32],
      [.pc 0x1234#32, .z true, .n false, .c true, .v false, .e2 true, .e1 true]⟩,
    ⟨0x800#32, [0x2020#16, 0x8780#16],
      [.reg 30 0x5678#32, .z true, .e1 true, .e2 true, .statusL2 0x102#32],
      [.pc 0x5678#32, .z false, .n false, .c false, .v true, .e2 false, .e1 true]⟩,
    ⟨0x100#32, [0x20A8#16, 0x0200#16],
      [],
      [.pc 0x104#32, .lpStart 0x104#32, .lpEnd 0x110#32]⟩,
    ⟨0x102#32, [0x20A8#16, 0x0200#16],
      [],
      [.pc 0x106#32, .lpStart 0x106#32, .lpEnd 0x110#32]⟩,
    ⟨0x300#32, [0x0008#16, 0x0029#16],
      [.n true, .v true, .byte 0x304#32 0xE0#8, .byte 0x305#32 0x78#8],
      [.pc 0x304#32, .target 0x308#32]⟩] = true := by decide +kernel

/-- 96_derived_vectors.md: C1, C9, C7, C23, C24, C25, C26, C31, C37, C44, C32, C33. -/
theorem test_vectors_control_2 : allVectors [
    ⟨0x1002#32, [0x0040#16, 0x0001#16],
      [.z true],
      [.pc 0x1040#32]⟩,
    ⟨0x2004#32, [0x07FD#16, 0xFFEF#16],
      [.byte 0x2008#32 0x4A#8, .byte 0x2009#32 0x26#8, .byte 0x200A#32 0x00#8, .byte 0x200B#32 0x70#8],
      [.pc 0x2008#32, .target 0x2000#32]⟩,
    ⟨0x1000000#32, [0x0001#16, 0x0008#16],
      [],
      [.pc 0x0#32]⟩,
    ⟨0x1006#32, [0x0880#16, 0x0002#16],
      [],
      [.pc 0x1084#32, .reg 31 0x100A#32]⟩,
    ⟨0x1006#32, [0x0880#16, 0x0002#16],
      [.z true],
      [.pc 0x100A#32]⟩,
    ⟨0x4000#32, [0x0802#16, 0x00A0#16],
      [.byte 0x4004#32 0xE0#8, .byte 0x4005#32 0x78#8],
      [.pc 0x4004#32, .target 0x5000#32, .reg 31 0x4006#32]⟩,
    ⟨0x4000#32, [0x0802#16, 0x00A0#16],
      [.byte 0x4004#32 0x4A#8, .byte 0x4005#32 0x26#8, .byte 0x4006#32 0x00#8, .byte 0x4007#32 0x70#8],
      [.pc 0x4004#32, .target 0x5000#32, .reg 31 0x4008#32]⟩,
    ⟨0x300#32, [0x0911#16, 0x0080#16],
      [.reg 1 0xFFFFFFFF#32, .reg 2 0x1#32],
      [.pc 0x304#32]⟩,
    ⟨0x300#32, [0x0911#16, 0x0080#16],
      [.reg 1 0x5#32, .reg 2 0x5#32],
      [.pc 0x310#32]⟩,
    ⟨0x402#32, [0x0821#16, 0x0061#16],
      [.reg 0 0x2#32, .reg 1 0x3#32, .byte 0x406#32 0xE0#8, .byte 0x407#32 0x78#8],
      [.pc 0x406#32, .target 0x420#32]⟩,
    ⟨0x300#32, [0x0911#16, 0x0081#16],
      [.reg 1 0xFFFFFFFF#32, .reg 2 0x1#32],
      [.pc 0x310#32]⟩,
    ⟨0x300#32, [0x0911#16, 0x0082#16],
      [.reg 1 0xFFFFFFFF#32, .reg 2 0x1#32],
      [.pc 0x310#32]⟩] = true := by decide +kernel

/-- 96_derived_vectors.md: C39, C34, C40, C35, C41, C36, C42, C53, C54, C56, C55, J12. -/
theorem test_vectors_control_3 : allVectors [
    ⟨0x300#32, [0x0911#16, 0x0082#16],
      [.reg 1 0x5#32, .reg 2 0x5#32],
      [.pc 0x304#32]⟩,
    ⟨0x300#32, [0x0911#16, 0x0083#16],
      [.reg 1 0xFFFFFFFF#32, .reg 2 0x1#32],
      [.pc 0x304#32]⟩,
    ⟨0x300#32, [0x0911#16, 0x0083#16],
      [.reg 1 0x5#32, .reg 2 0x5#32],
      [.pc 0x310#32]⟩,
    ⟨0x300#32, [0x0911#16, 0x0084#16],
      [.reg 1 0xFFFFFFFF#32, .reg 2 0x1#32],
      [.pc 0x304#32]⟩,
    ⟨0x300#32, [0x0911#16, 0x0084#16],
      [.reg 1 0x5#32, .reg 2 0x5#32],
      [.pc 0x304#32]⟩,
    ⟨0x300#32, [0x0911#16, 0x0085#16],
      [.reg 1 0xFFFFFFFF#32, .reg 2 0x1#32],
      [.pc 0x310#32]⟩,
    ⟨0x300#32, [0x0911#16, 0x0085#16],
      [.reg 1 0x5#32, .reg 2 0x5#32],
      [.pc 0x310#32]⟩,
    ⟨0x500#32, [0x0921#16, 0x025E#16],
      [.reg 1 0xFFFFFDFF#32],
      [.pc 0x520#32]⟩,
    ⟨0x500#32, [0x0921#16, 0x008E#16],
      [.reg 1 0xFFFFFDFF#32, .reg 2 0x29#32],
      [.pc 0x520#32]⟩,
    ⟨0x700#32, [0x0AF1#16, 0x80EF#16],
      [.reg 2 0x1#32, .reg 3 0x0#32, .byte 0x704#32 0xE0#8, .byte 0x705#32 0x78#8],
      [.pc 0x704#32, .target 0x6F0#32]⟩,
    ⟨0x600#32, [0x0905#16, 0x07DF#16],
      [.reg 1 0x80000000#32],
      [.pc 0x604#32]⟩,
    ⟨0x902#32, [0x7900#16],
      [.reg 1 0x3000#32],
      [.pc 0x3000#32]⟩] = true := by decide +kernel

/-- 96_derived_vectors.md: J13, J23, J24, J14, J15, J16, C50, C51, C52, C10, C11, C12. -/
theorem test_vectors_control_4 : allVectors [
    ⟨0x902#32, [0x7920#16],
      [.reg 1 0x3000#32, .byte 0x904#32 0xE0#8, .byte 0x905#32 0x78#8],
      [.pc 0x904#32, .target 0x3000#32]⟩,
    ⟨0x902#32, [0x7A40#16],
      [.reg 2 0x3000#32],
      [.pc 0x3000#32, .reg 31 0x904#32]⟩,
    ⟨0x902#32, [0x7A60#16],
      [.reg 2 0x3000#32, .byte 0x904#32 0x4A#8, .byte 0x905#32 0x26#8, .byte 0x906#32 0x00#8, .byte 0x907#32 0x70#8],
      [.pc 0x904#32, .target 0x3000#32, .reg 31 0x908#32]⟩,
    ⟨0x902#32, [0x7CE0#16],
      [.reg 31 0x2468#32, .z true],
      [.pc 0x2468#32]⟩,
    ⟨0x902#32, [0x7DE0#16],
      [.reg 31 0x2468#32, .z true],
      [.pc 0x904#32]⟩,
    ⟨0x902#32, [0x7FE0#16],
      [.reg 31 0x2468#32, .byte 0x904#32 0xE0#8, .byte 0x905#32 0x78#8],
      [.pc 0x904#32, .target 0x2468#32]⟩,
    ⟨0x402#32, [0xE908#16],
      [.reg 1 0x0#32],
      [.pc 0x410#32]⟩,
    ⟨0x402#32, [0xEDFE#16],
      [.reg 13 0x7#32],
      [.pc 0x3FC#32]⟩,
    ⟨0x402#32, [0xEDC0#16],
      [.reg 13 0x0#32],
      [.pc 0x404#32]⟩,
    ⟨0x102#32, [0xF0FF#16],
      [],
      [.pc 0x2FE#32]⟩,
    ⟨0x402#32, [0xF100#16],
      [],
      [.pc 0x200#32]⟩,
    ⟨0x106#32, [0xF208#16],
      [.z true],
      [.pc 0x114#32]⟩] = true := by decide +kernel

/-- 96_derived_vectors.md: C13, C14, C15, C16, C22, C17, C18, C19, C20, C21, C28, C29. -/
theorem test_vectors_control_5 : allVectors [
    ⟨0x106#32, [0xF5F8#16],
      [],
      [.pc 0xF4#32]⟩,
    ⟨0x200#32, [0xF61F#16],
      [],
      [.pc 0x23E#32]⟩,
    ⟨0x200#32, [0xF65F#16],
      [.n true, .v true],
      [.pc 0x23E#32]⟩,
    ⟨0x200#32, [0xF69F#16],
      [.n true],
      [.pc 0x23E#32]⟩,
    ⟨0x200#32, [0xF6A0#16],
      [.n true, .v true],
      [.pc 0x202#32]⟩,
    ⟨0x200#32, [0xF6DF#16],
      [.z true],
      [.pc 0x23E#32]⟩,
    ⟨0x200#32, [0xF71F#16],
      [],
      [.pc 0x23E#32]⟩,
    ⟨0x200#32, [0xF75F#16],
      [],
      [.pc 0x23E#32]⟩,
    ⟨0x200#32, [0xF79F#16],
      [.c true],
      [.pc 0x23E#32]⟩,
    ⟨0x200#32, [0xF7DF#16],
      [.z true],
      [.pc 0x23E#32]⟩,
    ⟨0x1002#32, [0xF840#16],
      [],
      [.pc 0x1100#32, .reg 31 0x1004#32]⟩,
    ⟨0x2002#32, [0xFC00#16],
      [],
      [.pc 0x1000#32, .reg 31 0x2004#32]⟩] = true := by decide +kernel

/-- 96_derived_vectors.md: S1, S2, S3, S4, S6, S5, S7, S8, S9, S11, S12, S13. -/
theorem test_vectors_shift_1 : allVectors [
    ⟨0x100#32, [0x212F#16, 0x8080#16],
      [.reg 2 0x7FFFFFFF#32],
      [.reg 1 0xFFFFFFFE#32, .z false, .n true, .c false, .v true]⟩,
    ⟨0x100#32, [0x212F#16, 0x8080#16],
      [.reg 2 0x0#32, .c true, .v true],
      [.reg 1 0x0#32, .z true, .n false, .c false, .v false]⟩,
    ⟨0x100#32, [0x212F#16, 0x8081#16],
      [.reg 2 0xFFFFFFFF#32, .v true],
      [.reg 1 0xFFFFFFFF#32, .z false, .n true, .c true, .v true]⟩,
    ⟨0x100#32, [0x212F#16, 0x8081#16],
      [.reg 2 0x2#32, .c true],
      [.reg 1 0x1#32, .z false, .n false, .c false, .v false]⟩,
    ⟨0x100#32, [0x212F#16, 0x8082#16],
      [.reg 2 0x1#32],
      [.reg 1 0x0#32, .z true, .n false, .c true, .v false]⟩,
    ⟨0x100#32, [0x212F#16, 0x8082#16],
      [.reg 2 0xFFFFFFFF#32],
      [.reg 1 0x7FFFFFFF#32, .z false, .n false, .c true, .v false]⟩,
    ⟨0x100#32, [0x212F#16, 0x8083#16],
      [.reg 2 0x80000001#32],
      [.reg 1 0xC0000000#32, .z false, .n true, .c true, .v false]⟩,
    ⟨0x100#32, [0x212F#16, 0x8084#16],
      [.reg 2 0x1#32],
      [.reg 1 0x0#32, .z true, .n false, .c true, .v false]⟩,
    ⟨0x100#32, [0x212F#16, 0x8084#16],
      [.reg 2 0x0#32, .c true],
      [.reg 1 0x80000000#32, .z false, .n true, .c false, .v false]⟩,
    ⟨0x100#32, [0x212F#16, 0x808B#16],
      [.reg 2 0x40000000#32, .c true, .v true],
      [.reg 1 0x80000001#32, .z false, .n true, .c false]⟩,
    ⟨0x100#32, [0x212F#16, 0x008B#16],
      [.reg 2 0x80000000#32, .v true],
      [.reg 1 0x0#32, .z false, .n false, .c false, .v true]⟩,
    ⟨0x100#32, [0x2A00#16, 0x80C1#16],
      [.reg 2 0x80000001#32, .reg 3 0x0#32, .c true, .v true],
      [.reg 1 0x80000001#32, .z false, .n true, .c false, .v true]⟩] = true := by decide +kernel

/-- 96_derived_vectors.md: S14, S20, S18, S22, S21, S26, S24, S28, S29, S30, S31, S32. -/
theorem test_vectors_shift_2 : allVectors [
    ⟨0x100#32, [0x2A00#16, 0x80C1#16],
      [.reg 2 0x3#32, .reg 3 0x1F#32],
      [.reg 1 0x80000000#32, .z false, .n true, .c true, .v false]⟩,
    ⟨0x100#32, [0x2A41#16, 0x8FC1#16],
      [.reg 2 0x40000000#32],
      [.reg 1 0x0#32, .z true, .n false, .c true, .v false]⟩,
    ⟨0x100#32, [0x2A01#16, 0x80C1#16],
      [.reg 2 0x80000000#32, .reg 3 0x0#32, .c true],
      [.reg 1 0x80000000#32, .z false, .n true, .c false, .v false]⟩,
    ⟨0x100#32, [0x2A42#16, 0x87C1#16],
      [.reg 2 0x7FFFFFFF#32],
      [.reg 1 0x0#32, .z true, .n false, .c true, .v false]⟩,
    ⟨0x100#32, [0x2A42#16, 0x87C1#16],
      [.reg 2 0x80000000#32],
      [.reg 1 0xFFFFFFFF#32, .z false, .n true, .c false, .v false]⟩,
    ⟨0x100#32, [0x2A43#16, 0x8401#16],
      [.reg 2 0x8000#32],
      [.reg 1 0x80000000#32, .z false, .n true, .c true, .v false]⟩,
    ⟨0x100#32, [0x2A03#16, 0x80C1#16],
      [.reg 2 0x80000001#32, .reg 3 0x0#32, .c true],
      [.reg 1 0x80000001#32, .z false, .n true, .c false, .v false]⟩,
    ⟨0x100#32, [0x6957#16],
      [.reg 1 0x1FFFFFF#32],
      [.reg 2 0xFFFFFF80#32, .z false, .n false, .c false, .v false]⟩,
    ⟨0x100#32, [0x695F#16],
      [.reg 1 0x80000000#32],
      [.reg 2 0xFF000000#32, .z false, .n false, .c false, .v false]⟩,
    ⟨0x100#32, [0x7958#16],
      [.reg 1 0x1#32, .reg 2 0x3F#32],
      [.reg 1 0x80000000#32, .z false, .n false, .c false, .v false]⟩,
    ⟨0x100#32, [0x7959#16],
      [.reg 1 0x80000000#32, .reg 2 0x21#32],
      [.reg 1 0x40000000#32, .z false, .n false, .c false, .v false]⟩,
    ⟨0x100#32, [0x795A#16],
      [.reg 1 0x80000000#32, .reg 2 0x21#32],
      [.reg 1 0xC0000000#32, .z false, .n false, .c false, .v false]⟩] = true := by decide +kernel

/-- 96_derived_vectors.md: S36, S37, S38, S33, S34, S35. -/
theorem test_vectors_shift_3 : allVectors [
    ⟨0x100#32, [0x795B#16],
      [.reg 2 0xC0000000#32, .v true],
      [.reg 1 0x80000000#32, .z false, .n false, .c false, .v true]⟩,
    ⟨0x100#32, [0x795C#16],
      [.reg 2 0x80000001#32],
      [.reg 1 0xC0000000#32, .z false, .n false, .c false, .v false]⟩,
    ⟨0x100#32, [0x795D#16],
      [.reg 2 0x80000001#32],
      [.reg 1 0x40000000#32, .z false, .n false, .c false, .v false]⟩,
    ⟨0x100#32, [0xB91F#16],
      [.reg 1 0x3#32],
      [.reg 1 0x80000000#32, .z false, .n false, .c false, .v false]⟩,
    ⟨0x100#32, [0xB93F#16],
      [.reg 1 0x80000000#32],
      [.reg 1 0x1#32, .z false, .n false, .c false, .v false]⟩,
    ⟨0x100#32, [0xB95F#16],
      [.reg 1 0x80000000#32],
      [.reg 1 0xFFFFFFFF#32, .z false, .n false, .c false, .v false]⟩] = true := by decide +kernel

/-- 96_derived_vectors.md: M24, M7, M27, M2, M28, M4, N6, N7, N2, N3, N4, M33. -/
theorem test_vectors_loadstore_1 : allVectors [
    ⟨0x1002#32, [0x1710#16, 0x7001#16],
      [.byte 0x1010#32 0xA5#8, .byte 0x1011#32 0xA5#8, .byte 0x1012#32 0xA5#8, .byte 0x1013#32 0xA5#8],
      [.reg 1 0xA5A5A5A5#32]⟩,
    ⟨0x100#32, [0x1308#16, 0x0202#16],
      [.reg 3 0x2000#32, .byte 0x2000#32 0x11#8, .byte 0x2001#32 0x22#8, .byte 0x2002#32 0x33#8, .byte 0x2003#32 0x44#8, .byte 0x2004#32 0x55#8, .byte 0x2005#32 0x66#8, .byte 0x2006#32 0x77#8, .byte 0x2007#32 0x88#8, .byte 0x2008#32 0xCC#8, .byte 0x2009#32 0xDD#8, .byte 0x200A#32 0xEE#8, .byte 0x200B#32 0xFF#8],
      [.reg 2 0xFFEEDDCC#32, .reg 3 0x2008#32]⟩,
    ⟨0x100#32, [0x2232#16, 0x00C1#16],
      [.reg 2 0x2000#32, .reg 3 0xFFFFFFFF#32, .byte 0x1FFF#32 0x9C#8],
      [.reg 1 0x9C#32]⟩,
    ⟨0x100#32, [0x13FF#16, 0x8082#16],
      [.reg 3 0x2008#32, .byte 0x2000#32 0x11#8, .byte 0x2001#32 0x22#8, .byte 0x2002#32 0x33#8, .byte 0x2003#32 0x44#8, .byte 0x2004#32 0x55#8, .byte 0x2005#32 0x66#8, .byte 0x2006#32 0x77#8, .byte 0x2007#32 0x88#8, .byte 0x2008#32 0xCC#8, .byte 0x2009#32 0xDD#8, .byte 0x200A#32 0xEE#8, .byte 0x200B#32 0xFF#8],
      [.reg 2 0x88#32]⟩,
    ⟨0x100#32, [0x2275#16, 0x00C1#16],
      [.reg 2 0x2000#32, .reg 3 0xA#32, .byte 0x2000#32 0x11#8, .byte 0x2001#32 0x22#8, .byte 0x2002#32 0x33#8, .byte 0x2003#32 0x44#8, .byte 0x2004#32 0x55#8, .byte 0x2005#32 0x66#8, .byte 0x2006#32 0x77#8, .byte 0x2007#32 0x88#8, .byte 0x2008#32 0xCC#8, .byte 0x2009#32 0xDD#8, .byte 0x200A#32 0xEE#8, .byte 0x200B#32 0xFF#8],
      [.reg 1 0xFFFFFFEE#32, .reg 2 0x200A#32]⟩,
    ⟨0x100#32, [0x1302#16, 0x0102#16],
      [.reg 3 0x2008#32, .byte 0x2000#32 0x11#8, .byte 0x2001#32 0x22#8, .byte 0x2002#32 0x33#8, .byte 0x2003#32 0x44#8, .byte 0x2004#32 0x55#8, .byte 0x2005#32 0x66#8, .byte 0x2006#32 0x77#8, .byte 0x2007#32 0x88#8, .byte 0x2008#32 0xCC#8, .byte 0x2009#32 0xDD#8, .byte 0x200A#32 0xEE#8, .byte 0x200B#32 0xFF#8],
      [.reg 2 0xFFEE#32]⟩,
    ⟨0x100#32, [0x1CFC#16, 0xB048#16],
      [.reg 1 0xDEADBEEF#32, .reg 28 0x8000#32],
      [.reg 28 0x7FFC#32, .byte 0x7FFC#32 0xEF#8, .byte 0x7FFD#32 0xBE#8, .byte 0x7FFE#32 0xAD#8, .byte 0x7FFF#32 0xDE#8]⟩,
    ⟨0x100#32, [0x1A04#16, 0x0050#16],
      [.reg 1 0x1020304#32, .reg 2 0x3000#32],
      [.reg 2 0x3004#32, .byte 0x3000#32 0x04#8, .byte 0x3001#32 0x03#8, .byte 0x3002#32 0x02#8, .byte 0x3003#32 0x01#8]⟩,
    ⟨0x100#32, [0x1BFF#16, 0x8082#16],
      [.reg 2 0x12345678#32, .reg 3 0x3001#32],
      [.byte 0x3000#32 0x78#8]⟩,
    ⟨0x100#32, [0x1B02#16, 0x0084#16],
      [.reg 2 0x12345678#32, .reg 3 0x3000#32],
      [.byte 0x3002#32 0x78#8, .byte 0x3003#32 0x56#8]⟩,
    ⟨0x100#32, [0x1B03#16, 0x009C#16],
      [.reg 2 0x12345678#32, .reg 3 0x3000#32],
      [.byte 0x3006#32 0x78#8, .byte 0x3007#32 0x56#8]⟩,
    ⟨0x100#32, [0x6261#16],
      [.reg 2 0x2000#32, .reg 3 0x4#32, .byte 0x2000#32 0x11#8, .byte 0x2001#32 0x22#8, .byte 0x2002#32 0x33#8, .byte 0x2003#32 0x44#8, .byte 0x2004#32 0x55#8, .byte 0x2005#32 0x66#8, .byte 0x2006#32 0x77#8, .byte 0x2007#32 0x88#8, .byte 0x2008#32 0xCC#8, .byte 0x2009#32 0xDD#8, .byte 0x200A#32 0xEE#8, .byte 0x200B#32 0xFF#8],
      [.reg 1 0x88776655#32]⟩] = true := by decide +kernel

/-- 96_derived_vectors.md: M34, M35, M36, M37, M38, M39, M40, N17, N18, N19, M41, M42. -/
theorem test_vectors_loadstore_2 : allVectors [
    ⟨0x100#32, [0x6269#16],
      [.reg 2 0x2000#32, .reg 3 0xB#32, .byte 0x2000#32 0x11#8, .byte 0x2001#32 0x22#8, .byte 0x2002#32 0x33#8, .byte 0x2003#32 0x44#8, .byte 0x2004#32 0x55#8, .byte 0x2005#32 0x66#8, .byte 0x2006#32 0x77#8, .byte 0x2007#32 0x88#8, .byte 0x2008#32 0xCC#8, .byte 0x2009#32 0xDD#8, .byte 0x200A#32 0xEE#8, .byte 0x200B#32 0xFF#8],
      [.reg 1 0xFF#32]⟩,
    ⟨0x100#32, [0x66F5#16],
      [.reg 14 0x2000#32, .reg 15 0xA#32, .byte 0x2000#32 0x11#8, .byte 0x2001#32 0x22#8, .byte 0x2002#32 0x33#8, .byte 0x2003#32 0x44#8, .byte 0x2004#32 0x55#8, .byte 0x2005#32 0x66#8, .byte 0x2006#32 0x77#8, .byte 0x2007#32 0x88#8, .byte 0x2008#32 0xCC#8, .byte 0x2009#32 0xDD#8, .byte 0x200A#32 0xEE#8, .byte 0x200B#32 0xFF#8],
      [.reg 13 0xFFEE#32]⟩,
    ⟨0x100#32, [0x8222#16],
      [.reg 2 0x2000#32, .byte 0x2000#32 0x11#8, .byte 0x2001#32 0x22#8, .byte 0x2002#32 0x33#8, .byte 0x2003#32 0x44#8, .byte 0x2004#32 0x55#8, .byte 0x2005#32 0x66#8, .byte 0x2006#32 0x77#8, .byte 0x2007#32 0x88#8, .byte 0x2008#32 0xCC#8, .byte 0x2009#32 0xDD#8, .byte 0x200A#32 0xEE#8, .byte 0x200B#32 0xFF#8],
      [.reg 1 0xFFEEDDCC#32]⟩,
    ⟨0x100#32, [0x823F#16],
      [.reg 2 0x1F8C#32, .byte 0x2000#32 0x11#8, .byte 0x2001#32 0x22#8, .byte 0x2002#32 0x33#8, .byte 0x2003#32 0x44#8, .byte 0x2004#32 0x55#8, .byte 0x2005#32 0x66#8, .byte 0x2006#32 0x77#8, .byte 0x2007#32 0x88#8, .byte 0x2008#32 0xCC#8, .byte 0x2009#32 0xDD#8, .byte 0x200A#32 0xEE#8, .byte 0x200B#32 0xFF#8],
      [.reg 1 0xFFEEDDCC#32]⟩,
    ⟨0x100#32, [0x8A25#16],
      [.reg 2 0x2006#32, .byte 0x2000#32 0x11#8, .byte 0x2001#32 0x22#8, .byte 0x2002#32 0x33#8, .byte 0x2003#32 0x44#8, .byte 0x2004#32 0x55#8, .byte 0x2005#32 0x66#8, .byte 0x2006#32 0x77#8, .byte 0x2007#32 0x88#8, .byte 0x2008#32 0xCC#8, .byte 0x2009#32 0xDD#8, .byte 0x200A#32 0xEE#8, .byte 0x200B#32 0xFF#8],
      [.reg 1 0xFF#32]⟩,
    ⟨0x100#32, [0x9223#16],
      [.reg 2 0x2004#32, .byte 0x2000#32 0x11#8, .byte 0x2001#32 0x22#8, .byte 0x2002#32 0x33#8, .byte 0x2003#32 0x44#8, .byte 0x2004#32 0x55#8, .byte 0x2005#32 0x66#8, .byte 0x2006#32 0x77#8, .byte 0x2007#32 0x88#8, .byte 0x2008#32 0xCC#8, .byte 0x2009#32 0xDD#8, .byte 0x200A#32 0xEE#8, .byte 0x200B#32 0xFF#8],
      [.reg 1 0xFFEE#32]⟩,
    ⟨0x100#32, [0x9A23#16],
      [.reg 2 0x2004#32, .byte 0x2000#32 0x11#8, .byte 0x2001#32 0x22#8, .byte 0x2002#32 0x33#8, .byte 0x2003#32 0x44#8, .byte 0x2004#32 0x55#8, .byte 0x2005#32 0x66#8, .byte 0x2006#32 0x77#8, .byte 0x2007#32 0x88#8, .byte 0x2008#32 0xCC#8, .byte 0x2009#32 0xDD#8, .byte 0x200A#32 0xEE#8, .byte 0x200B#32 0xFF#8],
      [.reg 1 0xFFFFFFEE#32]⟩,
    ⟨0x100#32, [0xA222#16],
      [.reg 1 0xA1B2C3D4#32, .reg 2 0x3000#32],
      [.byte 0x3008#32 0xD4#8, .byte 0x3009#32 0xC3#8, .byte 0x300A#32 0xB2#8, .byte 0x300B#32 0xA1#8]⟩,
    ⟨0x100#32, [0xAA25#16],
      [.reg 1 0xA1B2C3D4#32, .reg 2 0x3000#32],
      [.byte 0x3005#32 0xD4#8]⟩,
    ⟨0x100#32, [0xB223#16],
      [.reg 1 0xA1B2C3D4#32, .reg 2 0x3000#32],
      [.byte 0x3006#32 0xD4#8, .byte 0x3007#32 0xC3#8]⟩,
    ⟨0x100#32, [0xC102#16],
      [.reg 28 0x2000#32, .byte 0x2000#32 0x11#8, .byte 0x2001#32 0x22#8, .byte 0x2002#32 0x33#8, .byte 0x2003#32 0x44#8, .byte 0x2004#32 0x55#8, .byte 0x2005#32 0x66#8, .byte 0x2006#32 0x77#8, .byte 0x2007#32 0x88#8, .byte 0x2008#32 0xCC#8, .byte 0x2009#32 0xDD#8, .byte 0x200A#32 0xEE#8, .byte 0x200B#32 0xFF#8],
      [.reg 1 0xFFEEDDCC#32]⟩,
    ⟨0x100#32, [0xC122#16],
      [.reg 28 0x2000#32, .byte 0x2000#32 0x11#8, .byte 0x2001#32 0x22#8, .byte 0x2002#32 0x33#8, .byte 0x2003#32 0x44#8, .byte 0x2004#32 0x55#8, .byte 0x2005#32 0x66#8, .byte 0x2006#32 0x77#8, .byte 0x2007#32 0x88#8, .byte 0x2008#32 0xCC#8, .byte 0x2009#32 0xDD#8, .byte 0x200A#32 0xEE#8, .byte 0x200B#32 0xFF#8],
      [.reg 1 0xCC#32]⟩] = true := by decide +kernel

/-- 96_derived_vectors.md: N20, N21, M49, M50, N22, N24, N23, M43, M46, M44, M45, M47. -/
theorem test_vectors_loadstore_3 : allVectors [
    ⟨0x100#32, [0xC142#16],
      [.reg 1 0xA1B2C3D4#32, .reg 28 0x3000#32],
      [.byte 0x3008#32 0xD4#8, .byte 0x3009#32 0xC3#8, .byte 0x300A#32 0xB2#8, .byte 0x300B#32 0xA1#8]⟩,
    ⟨0x100#32, [0xC162#16],
      [.reg 1 0xA1B2C3D4#32, .reg 28 0x3000#32],
      [.byte 0x3008#32 0xD4#8]⟩,
    ⟨0x100#32, [0xC1C1#16],
      [.reg 28 0x2000#32, .byte 0x2000#32 0x11#8, .byte 0x2001#32 0x22#8, .byte 0x2002#32 0x33#8, .byte 0x2003#32 0x44#8, .byte 0x2004#32 0x55#8, .byte 0x2005#32 0x66#8, .byte 0x2006#32 0x77#8, .byte 0x2007#32 0x88#8, .byte 0x2008#32 0xCC#8, .byte 0x2009#32 0xDD#8, .byte 0x200A#32 0xEE#8, .byte 0x200B#32 0xFF#8],
      [.reg 1 0x44332211#32, .reg 28 0x2004#32]⟩,
    ⟨0x100#32, [0xC0D1#16],
      [.reg 28 0x2004#32, .byte 0x2000#32 0x11#8, .byte 0x2001#32 0x22#8, .byte 0x2002#32 0x33#8, .byte 0x2003#32 0x44#8, .byte 0x2004#32 0x55#8, .byte 0x2005#32 0x66#8, .byte 0x2006#32 0x77#8, .byte 0x2007#32 0x88#8, .byte 0x2008#32 0xCC#8, .byte 0x2009#32 0xDD#8, .byte 0x200A#32 0xEE#8, .byte 0x200B#32 0xFF#8],
      [.reg 28 0x2008#32, .reg 31 0x88776655#32]⟩,
    ⟨0x100#32, [0xC1E1#16],
      [.reg 1 0xDEADBEEF#32, .reg 28 0x8000#32],
      [.reg 28 0x7FFC#32, .byte 0x7FFC#32 0xEF#8, .byte 0x7FFD#32 0xBE#8, .byte 0x7FFE#32 0xAD#8, .byte 0x7FFF#32 0xDE#8]⟩,
    ⟨0x100#32, [0xC1E1#16],
      [.reg 1 0x11111111#32, .reg 28 0x0#32],
      [.reg 28 0xFFFFFFFC#32, .byte 0xFFFFFFFC#32 0x11#8, .byte 0xFFFFFFFD#32 0x11#8, .byte 0xFFFFFFFE#32 0x11#8, .byte 0xFFFFFFFF#32 0x11#8]⟩,
    ⟨0x100#32, [0xC0F1#16],
      [.reg 31 0x1234#32, .reg 28 0x8000#32],
      [.reg 28 0x7FFC#32, .byte 0x7FFC#32 0x34#8, .byte 0x7FFD#32 0x12#8, .byte 0x7FFE#32 0x00#8, .byte 0x7FFF#32 0x00#8]⟩,
    ⟨0x100#32, [0xC9FF#16],
      [.reg 26 0x2008#32, .byte 0x2000#32 0x11#8, .byte 0x2001#32 0x22#8, .byte 0x2002#32 0x33#8, .byte 0x2003#32 0x44#8, .byte 0x2004#32 0x55#8, .byte 0x2005#32 0x66#8, .byte 0x2006#32 0x77#8, .byte 0x2007#32 0x88#8, .byte 0x2008#32 0xCC#8, .byte 0x2009#32 0xDD#8, .byte 0x200A#32 0xEE#8, .byte 0x200B#32 0xFF#8],
      [.reg 0 0x88776655#32]⟩,
    ⟨0x100#32, [0xC900#16],
      [.reg 26 0x2400#32, .byte 0x2000#32 0x11#8, .byte 0x2001#32 0x22#8, .byte 0x2002#32 0x33#8, .byte 0x2003#32 0x44#8, .byte 0x2004#32 0x55#8, .byte 0x2005#32 0x66#8, .byte 0x2006#32 0x77#8, .byte 0x2007#32 0x88#8, .byte 0x2008#32 0xCC#8, .byte 0x2009#32 0xDD#8, .byte 0x200A#32 0xEE#8, .byte 0x200B#32 0xFF#8],
      [.reg 0 0x44332211#32]⟩,
    ⟨0x100#32, [0xCBFF#16],
      [.reg 26 0x2008#32, .byte 0x2000#32 0x11#8, .byte 0x2001#32 0x22#8, .byte 0x2002#32 0x33#8, .byte 0x2003#32 0x44#8, .byte 0x2004#32 0x55#8, .byte 0x2005#32 0x66#8, .byte 0x2006#32 0x77#8, .byte 0x2007#32 0x88#8, .byte 0x2008#32 0xCC#8, .byte 0x2009#32 0xDD#8, .byte 0x200A#32 0xEE#8, .byte 0x200B#32 0xFF#8],
      [.reg 0 0x88#32]⟩,
    ⟨0x100#32, [0xCC03#16],
      [.reg 26 0x2004#32, .byte 0x2000#32 0x11#8, .byte 0x2001#32 0x22#8, .byte 0x2002#32 0x33#8, .byte 0x2003#32 0x44#8, .byte 0x2004#32 0x55#8, .byte 0x2005#32 0x66#8, .byte 0x2006#32 0x77#8, .byte 0x2007#32 0x88#8, .byte 0x2008#32 0xCC#8, .byte 0x2009#32 0xDD#8, .byte 0x200A#32 0xEE#8, .byte 0x200B#32 0xFF#8],
      [.reg 0 0xFFEE#32]⟩,
    ⟨0x1002#32, [0xD104#16],
      [.byte 0x1010#32 0x0D#8, .byte 0x1011#32 0xF0#8, .byte 0x1012#32 0xFE#8, .byte 0x1013#32 0xCA#8],
      [.reg 1 0xCAFEF00D#32]⟩] = true := by decide +kernel

/-- 96_derived_vectors.md: M48. -/
theorem test_vectors_loadstore_4 : allVectors [
    ⟨0x1002#32, [0xD5FF#16],
      [.byte 0x13FC#32 0x04#8, .byte 0x13FD#32 0x03#8, .byte 0x13FE#32 0x02#8, .byte 0x13FF#32 0x01#8],
      [.reg 13 0x1020304#32]⟩] = true := by decide +kernel

/-- 96_derived_vectors.md: X3, X12, X7, X9, X20, X21, X23, X24, X29, X30, X11. -/
theorem test_vectors_extension_1 : allVectors [
    ⟨0x100#32, [0x2A04#16, 0x00FE#16],
      [.reg 2 0x7FFFFFFF#32, .reg 3 0x80000000#32],
      [.mulres 0xC000000080000000#64]⟩,
    ⟨0x100#32, [0x2E04#16, 0x70FE#16, 0x0001#16, 0x0000#16],
      [.reg 3 0x10000#32],
      [.mulres 0x100000000#64]⟩,
    ⟨0x100#32, [0x2A05#16, 0x00FE#16],
      [.reg 2 0xFFFFFFFF#32, .reg 3 0xFFFFFFFF#32],
      [.mulres 0xFFFFFFFE00000001#64]⟩,
    ⟨0x100#32, [0x2985#16, 0x0FFF#16],
      [.reg 1 0x2#32],
      [.mulres 0x1FFFFFFFE#64]⟩,
    ⟨0x100#32, [0x292F#16, 0x8080#16],
      [.reg 2 0xFFFF#32, .c true, .v true],
      [.reg 1 0xFFFF0000#32, .z false, .n true, .c true, .v true]⟩,
    ⟨0x100#32, [0x292F#16, 0x8080#16],
      [.reg 2 0x0#32],
      [.reg 1 0x0#32, .z true, .n false, .c false, .v false]⟩,
    ⟨0x100#32, [0x292F#16, 0x8081#16],
      [.reg 2 0x0#32, .c true],
      [.reg 1 0x1F#32, .z true, .n false, .c true, .v false]⟩,
    ⟨0x100#32, [0x292F#16, 0x8081#16],
      [.reg 2 0xFFFFFFFF#32],
      [.reg 1 0x1F#32, .z false, .n true, .c false, .v false]⟩,
    ⟨0x100#32, [0x292F#16, 0x8088#16],
      [.reg 2 0xFFFF0000#32],
      [.reg 1 0xF#32, .z true, .n false, .c false, .v false]⟩,
    ⟨0x100#32, [0x292F#16, 0x8088#16],
      [.reg 2 0xFFFF#32],
      [.reg 1 0xF#32, .z false, .n true, .c false, .v false]⟩,
    ⟨0x100#32, [0x794C#16],
      [.reg 1 0x80000000#32, .reg 2 0x2#32],
      [.mulres 0xFFFFFFFF00000000#64]⟩] = true := by decide +kernel

/-- J_S [BLINK] (43_branch_jump_loop.md R402); the word is that of its row of spec/opcode_table.json. -/
theorem test_jump_blink : allVectors [⟨0x100#32, [0x7EE0#16], [.reg 31 0x2001#32], [.pc 0x2000#32, .reg 31 0x2001#32]⟩] = true := by
  decide +kernel

/-! ### A state and operands for the hypotheses of every statement -/

/-- `NoHazard`, computed. -/
def calm (s : State) (l : Len) (o : Option Opt) : Bool :=
  s.haltShadow == 0 && (!s.prevDslot || !l.limm) && !(o.any fun x => !s.cfg.has x)

theorem noHazard_of {s : State} {l : Len} {o : Option Opt} (h : calm s l o = true := by decide +kernel) : s.NoHazard l o := by
  simp only [calm, Bool.and_eq_true, beq_iff_eq, Bool.or_eq_true, Bool.not_eq_true'] at h
  obtain ⟨⟨h1, h2⟩, h3⟩ := h
  refine ⟨h1, fun hp => ?_, ?_⟩
  · rcases h2 with h2 | h2
    · rw [h2] at hp; cases hp
    · exact h2
  · rintro x rfl
    simpa using h3

/-- `LoopReady`, computed. -/
def loopCalm (s : State) (l : Len) (count bounds : Bool) : Bool :=
  s.npc l != s.lpEnd || (!count && decide (4 ≤ s.lpcAge + l.words) && (!bounds && decide (3 ≤ s.lpseAge + l.words)))

theorem loopReady_of {s : State} {l : Len} {c b : Bool} (h : loopCalm s l c b = true := by decide +kernel) :
    s.LoopReady l c b := by
  simp only [loopCalm, Bool.and_eq_true, Bool.or_eq_true, Bool.not_eq_true', bne_iff_ne, decide_eq_true_eq] at h
  exact ⟨fun e => (h.resolve_left fun n => n e).1, fun e => (h.resolve_left fun n => n e).2⟩

/-- Whether a result is a next state of which something holds. -/
def nextHas (r : Result) (p : State → Bool) : Bool :=
  match r with
  | .next t => p t
  | .fault f => nomatch f
  | .refused _ => false

theorem next_of {r : Result} {p : State → Bool} (h : nextHas r p = true := by decide +kernel) :
    ∃ t, r = .next t ∧ p t = true := by
  cases r with
  | next t => exact ⟨t, rfl, h⟩
  | fault f => exact nomatch f
  | refused f => cases h

theorem byte_of {s : State} {l : List Byte} {a : Word}
    (h : (List.range l.length).all (fun k => s.readByte (a + BitVec.ofNat 32 k) == l[k]! &&
      memValid s.cfg .fetch (a + BitVec.ofNat 32 k).toNat) = true := by decide +kernel) :
    ∀ (k : Nat) (b : Byte), l[k]? = some b →
      s.readByte (a + BitVec.ofNat 32 k) = b ∧ memValid s.cfg .fetch (a + BitVec.ofNat 32 k).toNat = true := by
  intro k b hb
  obtain ⟨hk, rfl⟩ := List.getElem?_eq_some_iff.mp hb
  have := List.all_eq_true.mp h k (List.mem_range.mpr hk)
  simpa [hk] using this

/-- The state after reset. -/
abbrev s0 : State := State.reset

/-- The last instruction of a loop, `n` words before its end, with the loop registers set long ago. -/
abbrev loopState (n : Nat) : State :=
  { s0 with pc := 0x100#32, lpStart := 0x100#32, lpEnd := BitVec.ofNat 32 (0x100 + 4 * n), lpCount := 2#32 }

/-- No memory is valid for any access. -/
abbrev noMem : State := { s0 with cfg := { Config.default with invalidMemory := [⟨0, 2 ^ 32, true, true, true⟩] } }

/-- Only the first half-word, or the first word, is valid for a fetch. -/
abbrev shortMem (n : Nat) (l : List Half) : State :=
  { s0 with cfg := { Config.default with invalidMemory := [⟨n, 16, true, false, false⟩] } }.placeHalves 0#32 l

theorem test_witness_DecodeOfEncode :
    (Instr.add (.abc true 1#6 62#6 3#6 0xFFFFFFFF#32)).wf = true ∧ (Instr.b_s25 0x800000#24 true).wf = true := by decide
theorem test_witness_DecoderAcceptsWellFormed :
    decodeHalves 0x2600#16 0x7F81#16 0x10#32 = .ok (.add (.abc false 1#6 62#6 62#6 0x10#32)) ∧
    (let field := fun (h0 h1 : Half) (lo n : Nat) => ((h0 ++ h1 : Word).extractLsb' lo n).toNat;
      (field 0x1000#16 0x0040#16 27 5 = 2 ∧ field 0x1000#16 0x0040#16 7 2 = 0 ∧ field 0x1000#16 0x0040#16 6 1 = 1) ∧
      (field 0x2037#16 0#16 27 5 = 4 ∧ field 0x2037#16 0#16 19 3 = 6 ∧ field 0x2037#16 0#16 17 2 = 3) ∧
      (field 0x1800#16 6#16 27 5 = 3 ∧ field 0x1800#16 6#16 1 2 = 3) ∧
      (field 0x200B#16 0#16 16 6 = 0x0B ∧ field 0x200B#16 0#16 15 1 = 0) ∧
      (field 0x20AF#16 0#16 16 6 = 0x2F ∧ field 0x20AF#16 0#16 22 2 = 2) ∧
      (field 0x2028#16 0#16 16 6 = 0x28 ∧ field 0x2028#16 0#16 22 2 = 0) ∧
      (field 0x206A#16 0#16 16 6 = 0x2A ∧ field 0x206A#16 0#16 22 1 = 1) ∧
      (field 0xC2A0#16 0#16 27 5 = 0x18 ∧ field 0xC2A0#16 0#16 21 3 = 5 ∧ field 0xC2A0#16 0#16 24 3 = 2) ∧
      (field 0xC0C0#16 0#16 27 5 = 0x18 ∧ field 0xC0C0#16 0#16 21 3 = 6 ∧ field 0xC0C0#16 0#16 16 5 ∉ [1, 17])) := by
  decide +kernel

theorem test_witness_StepRunsDecoded :
    let i : Instr := .add (.abc true 1#6 62#6 3#6 0xFFFFFFFF#32)
    let s := s0.placeHalves s0.pc (encode i)
    i.wf = true ∧ s.h = false ∧ s.zz = false ∧ s.interrupt = none ∧ present s.cfg i = true ∧
    (∀ (k : Nat) (b : Byte), (encodeBytes i)[k]? = some b →
      s.readByte (s.pc + BitVec.ofNat 32 k) = b ∧ memValid s.cfg .fetch (s.pc + BitVec.ofNat 32 k).toNat = true) :=
  ⟨by decide +kernel, by decide +kernel, by decide +kernel, by decide +kernel, by decide +kernel, byte_of⟩

/-- A request on line 3 (level 1) or 6 (level 2), both enabled. -/
abbrev asked (n : Nat) : State := { s0 with pending := [n], e1 := true, e2 := true }

theorem test_witness_StepWithoutInterrupt :
    ({ s0 with h := true } : State).h = true ∧
    (let s : State := { s0 with zz := true }; s.zz = true ∧ s.interrupt = none) ∧
    (s0.h = false ∧ s0.zz = false) ∧
    ({ asked 3 with prevDslot := true } : State).prevDslot = true ∧ ({ asked 3 with prevFlag := true } : State).prevFlag = true ∧
    (State.placeHalves (asked 3) 0#32 [0x7FFF#16]).fetch16 0#32 = some 0x7FFF#16 ∧
    (s0.e1 = false ∧ s0.e2 = false) ∧ ({ asked 3 with pending := [] } : State).pending = [] := by decide +kernel

theorem test_witness_InterruptEntry :
    (asked 3).h = false ∧ (asked 3).interrupt = some ⟨3, .one⟩ ∧ (asked 3).haltShadow = 0 ∧
    (asked 6).h = false ∧ (asked 6).interrupt = some ⟨6, .two⟩ ∧ (asked 6).haltShadow = 0 ∧
    (let s : State := { asked 6 with haltShadow := 1 }; s.interrupt = some ⟨6, .two⟩ ∧ s.haltShadow ≠ 0) := by decide +kernel

theorem test_witness_InterruptChoice :
    (asked 3).takeable = some ⟨3, .one⟩ ∧ (asked 6).takeable = some ⟨6, .two⟩ ∧
    (⟨3, .one⟩ : IrqLine) ∈ (asked 3).cfg.irqLines ∧ 3 ∈ (asked 3).pending ∧ (asked 3).e1 = true ∧
    (⟨6, .two⟩ : IrqLine) ∈ (asked 6).cfg.irqLines ∧ 6 ∈ (asked 6).pending ∧ (asked 6).e2 = true := by decide +kernel

theorem test_witness_FetchExceptions :
    (noMem.h = false ∧ noMem.zz = false ∧ noMem.interrupt = none ∧ noMem.validFrom .fetch noMem.pc 2 = false) ∧
    (let s := shortMem 2 [];
      s.interrupt = none ∧ s.fetch16 s.pc = some 0#16 ∧ s.validFrom .fetch (s.pc + 2) 2 = false) ∧
    (let s := shortMem 4 [0x2600#16, 0x7F81#16];
      let i : Instr := .add (.abc false 1#6 62#6 62#6 0#32)
      s.interrupt = none ∧ s.fetch16 s.pc = some 0x2600#16 ∧ s.fetch16 (s.pc + 2) = some 0x7F81#16 ∧
      decodeHalves 0x2600#16 0x7F81#16 0#32 = .ok i ∧ i.hasLimm = true ∧ present s.cfg i = true ∧
      s.validFrom .fetch (s.pc + BitVec.ofNat 32 i.base) 4 = false) ∧
    (let s := shortMem 2 [0x71C7#16];
      let i : Instr := .add_s_bbh 1#3 62#6 0#32
      s.interrupt = none ∧ s.fetch16 s.pc = some 0x71C7#16 ∧ 8 ≤ ((0x71C7#16 : Half).extractLsb' 11 5).toNat ∧
      decodeHalves 0x71C7#16 0#16 0#32 = .ok i ∧ i.hasLimm = true ∧ present s.cfg i = true ∧
      s.validFrom .fetch (s.pc + BitVec.ofNat 32 i.base) 4 = false) ∧
    (let s := s0.placeHalves 0#32 [0xC0C0#16];
      s.interrupt = none ∧ s.fetch16 s.pc = some 0xC0C0#16 ∧ decodeHalves 0xC0C0#16 0#16 0#32 = .undefinedForm .popPush) ∧
    (let s := s0.placeHalves 0#32 [0x3FFF#16];
      s.interrupt = none ∧ s.fetch16 s.pc = some 0x3FFF#16 ∧ s.fetch16 (s.pc + 2) = some 0#16 ∧
      decodeHalves 0x3FFF#16 0#16 0#32 = .reserved ∧ s.haltShadow = 0) ∧
    (let s := ({ s0 with haltShadow := 1 } : State).placeHalves 0#32 [0x4000#16];
      s.interrupt = none ∧ s.fetch16 s.pc = some 0x4000#16 ∧ decodeHalves 0x4000#16 0#16 0#32 = .reserved ∧
      s.haltShadow ≠ 0) := by decide +kernel

theorem test_witness_AbsentOption :
    let s : State := { s0 with cfg := { Config.default with hasMul64 := false } }
    needs (Instr.mul64_s_bc 1#3 2#3).shape = some .mul64 ∧ s.cfg.has .mul64 = false ∧ s.haltShadow = 0 := by decide +kernel

/-- The general form of two registers, with the destination LP_COUNT. -/
abbrev fCount : GenForm := .abc true 60#6 2#6 3#6 0#32

/-- The conditional form, on Z, with a long immediate. -/
abbrev fCond : GenForm := .ccbbc true 1#6 62#6 1#5 7#32

theorem test_witness_AluCompletes :
    (s0.NoHazard (genArgs fCount).len (aluNeeds .ror) ∧ s0.LoopReady (genArgs fCount).len (fCount.dest == 60#6) false ∧
      s0.condMet (genArgs fCount).cond = true ∧ s0.value1 (genArgs fCount) = .ok 0#32 ∧
      s0.value (genArgs fCount).len 1 (genArgs fCount).src2 = .ok 0#32) ∧
    (let s := loopState 2;
      let form : GenForm := .bbs12 false 1#6 0xFFF#12 0#32
      s.NoHazard (genArgs form).len (aluNeeds .add) ∧ s.LoopReady (genArgs form).len (form.dest == 60#6) false ∧
      s.condMet (genArgs form).cond = true ∧ s.value1 (genArgs form) = .ok 0#32 ∧
      s.value (genArgs form).len 1 (genArgs form).src2 = .ok 0xFFFFFFFF#32) :=
  ⟨⟨noHazard_of, loopReady_of, by decide +kernel, by decide +kernel, by decide +kernel⟩,
    noHazard_of, loopReady_of, by decide +kernel, by decide +kernel, by decide +kernel⟩

theorem test_witness_LogicBitResults_ShiftResults_SingleOperandResults : 0 < 32 ∧ 31 < 32 := by decide
theorem test_witness_MaxMinAbsResults : (0x80000001#32 : Word) ≠ 0x80000000#32 := by decide

/-- A comparison with a long immediate. -/
abbrev fCmp : CmpForm := .bc 1#6 62#6 7#32

theorem test_witness_TestCompletes :
    s0.NoHazard (cmpArgs fCmp).len none ∧ s0.LoopReady (cmpArgs fCmp).len false false ∧
    s0.condMet (cmpArgs fCmp).cond = true ∧ s0.value1 (cmpArgs fCmp) = .ok 0#32 ∧
    s0.value (cmpArgs fCmp).len 1 (cmpArgs fCmp).src2 = .ok 7#32 :=
  ⟨noHazard_of, loopReady_of, by decide +kernel, by decide +kernel, by decide +kernel⟩

theorem test_witness_ExtensionConditions :
    let cfg : Config := { Config.default with extCond := [(31#5, 0xAAAA#16)] }
    16 ≤ (16#5 : BitVec 5).toNat ∧ (∀ x ∈ cfg.extCond, x.1 ≠ 16#5) ∧ 16 ≤ (31#5 : BitVec 5).toNat ∧ s0.cfg.extCond = [] ∧
    cfg.extCond = (31#5, 0xAAAA#16) :: [] := ⟨by decide, by simp, by decide, rfl, rfl⟩

theorem test_witness_MovCompletes :
    let form : MovForm := .ccbc true 60#6 62#6 2#5 9#32
    s0.NoHazard (movArgs form).len none ∧ s0.LoopReady (movArgs form).len (form.dest == 60#6) false ∧
    s0.condMet (movArgs form).cond = true ∧ s0.value (movArgs form).len 1 (movArgs form).src2 = .ok 9#32 :=
  ⟨noHazard_of, loopReady_of, by decide +kernel, by decide +kernel⟩

theorem test_witness_SingleOperandCompletes :
    let form : SopForm := .bu6 true 1#6 63#6
    s0.NoHazard (sopArgs form).len (sopNeeds .normw) ∧ s0.LoopReady (sopArgs form).len (form.dest == 60#6) false ∧
    s0.value (sopArgs form).len 1 (sopArgs form).src2 = .ok 63#32 :=
  ⟨noHazard_of, loopReady_of, by decide +kernel⟩

theorem test_witness_SingleOperandResults_norm (f : Flags) (v : Bool) : ∃ n m, (sopEval .norm f v 0#32).1.toNat = n ∧
    (sopEval .normw f v 0#32).1.toNat = m := ⟨_, _, rfl, rfl⟩

theorem test_witness_MultiplyCompletes :
    (s0.NoHazard (cmpArgs fCmp).len (some .mul64) ∧ s0.LoopReady (cmpArgs fCmp).len false false ∧
      s0.condMet (cmpArgs fCmp).cond = true ∧ s0.value1 (cmpArgs fCmp) = .ok 0#32 ∧
      s0.value (cmpArgs fCmp).len 1 (cmpArgs fCmp).src2 = .ok 7#32) ∧
    s0.NoHazard len16 (some .mul64) ∧ s0.LoopReady len16 false false :=
  ⟨⟨noHazard_of, loopReady_of, by decide +kernel, by decide +kernel, by decide +kernel⟩, noHazard_of, loopReady_of⟩

theorem test_witness_CoreRegisterAccess :
    ((0#6 : Reg).toNat < 32 ∧ (31#6 : Reg).toNat < 32) ∧ s0.cfg.hasMul64 = true ∧
    (let s : State := { s0 with cfg := { Config.default with extCore := [32#6, 56#6] } };
      32 ≤ (32#6 : Reg).toNat ∧ (32#6 : Reg).toNat < 57 ∧ 32#6 ∈ s.cfg.extCore ∧ 32 ≤ (56#6 : Reg).toNat ∧
      (56#6 : Reg).toNat < 57 ∧ 56#6 ∈ s.cfg.extCore) ∧
    (s0.lpcAge ≠ 0 ∧ s0.npc len16 ≠ s0.lpEnd) ∧
    (32 ≤ (56#6 : Reg).toNat ∧ (56#6 : Reg).toNat < 57 ∧ 56#6 ∉ s0.cfg.extCore) ∧
    (57 ≤ (57#6 : Reg).toNat ∧ (59#6 : Reg).toNat < 60) ∧
    (60 < (61#6 : Reg).toNat ∧ 60 < (63#6 : Reg).toNat) := by decide +kernel

theorem test_witness_FalseConditionSkips :
    (s0.NoHazard (genArgs fCond).len (aluNeeds .asl) ∧ s0.LoopReady (genArgs fCond).len false false ∧
      s0.condMet (genArgs fCond).cond = false) ∧
    (let form : CmpForm := .ccbc 1#6 2#6 31#5 0#32;
      s0.NoHazard (cmpArgs form).len none ∧ s0.NoHazard (cmpArgs form).len (some .mul64) ∧
      s0.LoopReady (cmpArgs form).len false false ∧ s0.condMet (cmpArgs form).cond = false) ∧
    (let form : MovForm := .ccbu6 false 1#6 2#6 4#5;
      s0.NoHazard (movArgs form).len none ∧ s0.LoopReady (movArgs form).len false false ∧
      s0.condMet (movArgs form).cond = false) ∧
    (let s : State := { s0 with flags := ⟨true, false, false, false⟩ };
      s.NoHazard len16 none ∧ s.LoopReady len16 false false ∧ s.flags.z = true) :=
  ⟨⟨noHazard_of, loopReady_of, by decide +kernel⟩, ⟨noHazard_of, noHazard_of, loopReady_of, by decide +kernel⟩,
    ⟨noHazard_of, loopReady_of, by decide +kernel⟩, noHazard_of, loopReady_of, by decide +kernel⟩

theorem test_witness_Arith16Completes_LogicShift16Completes :
    s0.NoHazard len16 none ∧ s0.LoopReady len16 false false ∧ s0.flags.z = false ∧ s0.cfg.hasBarrel = true :=
  ⟨noHazard_of, loopReady_of, by decide +kernel, by decide +kernel⟩

theorem test_witness_HighRegisterAndTest16Completes :
    (let l : Len := ⟨true, (62#6 : Reg) == 62#6⟩;
      s0.readCore l 1 62#6 5#32 = .ok 5#32 ∧ s0.NoHazard l none ∧ s0.LoopReady l false false) ∧
    (s0.NoHazard len16 none ∧ s0.LoopReady len16 ((60#6 : Reg) == 60#6) false) ∧ s0.LoopReady len16 false false :=
  ⟨⟨by decide +kernel, noHazard_of, loopReady_of⟩, ⟨noHazard_of, loopReady_of⟩, loopReady_of⟩

theorem test_witness_MemoryReadAfterWrite :
    s0.mem.wf = true ∧ 3 < sizeBytes .long ∧ ¬ inAccess 0xFFFFFFFF#32 .half 1#32 ∧
    ∀ y, inAccess 4#32 .long y → ¬ inAccess 0#32 .long y := by
  refine ⟨by decide, by decide, ?_, ?_⟩
  · rintro ⟨k, hk, h⟩
    simp only [sizeBytes] at hk
    interval_cases k <;> revert h <;> decide
  · rintro y ⟨k, hk, rfl⟩ ⟨j, hj, h⟩
    simp only [sizeBytes] at hk hj
    interval_cases k <;> interval_cases j <;> revert h <;> decide

theorem test_witness_LoadCompletes :
    let kind : LdKind := .half true
    let form : LdForm := .s9 31#6 60#6 0x1FE#9 1#2 false 0#32
    let x := ldArgs (ldSize kind) form
    let ea := effAddr (ldSize kind) 0#32 0xFFFFFFFE#32 x.aa
    form.fits kind = true ∧ ldDest form ≠ 60#6 ∧ s0.NoHazard x.len none ∧
    s0.LoopReady x.len (wbWritesLpCount x.wb ea.2) false ∧ s0.value x.len 0 x.base = .ok 0#32 ∧
    s0.value x.len 1 x.offset = .ok 0xFFFFFFFE#32 ∧ ea.1.toNat % sizeBytes (ldSize kind) = 0 ∧
    s0.validFrom .load ea.1 (sizeBytes (ldSize kind)) = true :=
  ⟨by decide +kernel, by decide +kernel, noHazard_of, loopReady_of, by decide +kernel, by decide +kernel, by decide +kernel,
    by decide +kernel⟩

theorem test_witness_Load16Completes_Store16Completes :
    s0.mem.wf = true ∧ s0.NoHazard len16 none ∧ s0.LoopReady len16 false false ∧
    (4 * (31#5 : BitVec 5).setWidth 32 : Word).toNat % 4 = 0 ∧ (4 * (0x1FF#9 : BitVec 9).signExtend 32 : Word).toNat % 4 = 0 ∧
    (2 * (0x1FF#9 : BitVec 9).signExtend 32 : Word).toNat % 2 = 0 ∧ (0#32 - 4#32 : Word).toNat % 4 = 0 ∧
    s0.validFrom .load 124#32 4 = true ∧ s0.validFrom .load 0xFFFFFFFC#32 4 = true ∧
    s0.validFrom .load 0xFFFFFFFE#32 2 = true ∧ s0.validFrom .load 0xFFFFFFFF#32 1 = true ∧
    s0.validFrom .store 0xFFFFFFFC#32 4 = true ∧ s0.validFrom .store 62#32 2 = true ∧ s0.validFrom .store 31#32 1 = true :=
  ⟨by decide, noHazard_of, loopReady_of, by decide +kernel⟩

theorem test_witness_StoreCompletes :
    let l : Len := ⟨false, (62#6 : Reg) == 62#6 || (3#6 : Reg) == 62#6⟩
    let ea := effAddr .long 0x1000#32 ((4#9 : BitVec 9).signExtend 32) 0#2
    aaFits (Size.long == .byte) 62#6 0#2 = true ∧ s0.mem.wf = true ∧ s0.NoHazard l none ∧
    s0.LoopReady l ((62#6 : Reg) == 60#6 && ea.2.isSome) false ∧ s0.readCore l 0 62#6 0x1000#32 = .ok 0x1000#32 ∧
    s0.readCore l 1 3#6 0x1000#32 = .ok 0#32 ∧ ea.1.toNat % sizeBytes .long = 0 ∧
    s0.validFrom .store ea.1 (sizeBytes .long) = true ∧ ¬ inAccess ea.1 .long 0#32 := by
  refine ⟨by decide +kernel, by decide, noHazard_of, loopReady_of, by decide +kernel, by decide +kernel, by decide +kernel,
    by decide +kernel, ?_⟩
  rintro ⟨k, hk, h⟩
  simp only [sizeBytes] at hk
  interval_cases k <;> revert h <;> decide

theorem test_witness_DataAccessExceptions :
    (let form : LdForm := .rr 1#6 2#6 3#6 0#2 false 0#32;
      let x := ldArgs .long form
      ldDest form ≠ 60#6 ∧ noMem.NoHazard x.len none ∧ noMem.value x.len 0 x.base = .ok 0#32 ∧
      noMem.value x.len 1 x.offset = .ok 0#32 ∧ (effAddr .long 0#32 0#32 x.aa).1.toNat % 4 = 0 ∧
      noMem.validFrom .load 0#32 4 = false) ∧
    (let l : Len := ⟨false, false⟩;
      noMem.NoHazard l none ∧ noMem.readCore l 0 2#6 0#32 = .ok 0#32 ∧ noMem.readCore l 1 3#6 0#32 = .ok 0#32 ∧
      noMem.validFrom .store 0#32 4 = false) ∧
    (noMem.NoHazard len16 none ∧ (noMem.reg 28).toNat % sizeBytes .long = 0 ∧
      noMem.validFrom .load (noMem.reg 28) (sizeBytes .long) = false ∧ (noMem.reg 28 - 4#32).toNat % sizeBytes .long = 0 ∧
      noMem.validFrom .store (noMem.reg 28 - 4#32) (sizeBytes .long) = false ∧
      noMem.validFrom .store (noMem.reg 1 + (1#5 : BitVec 5).setWidth 32) (sizeBytes .byte) = false) ∧
    (let s := s0.setReg 28 1#32;
      s.NoHazard len16 none ∧ (s.reg 28).toNat % sizeBytes .long ≠ 0 ∧ (s.reg 28 - 4#32).toNat % sizeBytes .long ≠ 0 ∧
      (s.reg 28).toNat % sizeBytes .half ≠ 0) ∧
    (let form : LdForm := .s9 60#6 2#6 0#9 0#2 false 0#32;
      s0.NoHazard (ldArgs .long form).len none ∧ ldDest form = 60#6) ∧
    (let form : LdForm := .s9 1#6 2#6 2#9 0#2 false 0#32;
      let x := ldArgs .long form
      s0.NoHazard x.len none ∧ ldDest form ≠ 60#6 ∧ s0.value x.len 0 x.base = .ok 0#32 ∧
      s0.value x.len 1 x.offset = .ok 2#32 ∧ (effAddr .long 0#32 2#32 x.aa).1.toNat % 4 ≠ 0) ∧
    (s0.NoHazard ⟨false, false⟩ none ∧ s0.readCore ⟨false, false⟩ 0 2#6 0#32 = .ok 0#32 ∧
      s0.readCore ⟨false, false⟩ 1 3#6 0#32 = .ok 0#32 ∧
      (effAddr .half 0#32 ((1#9 : BitVec 9).signExtend 32) 0#2).1.toNat % sizeBytes .half ≠ 0) :=
  ⟨⟨by decide +kernel, noHazard_of, by decide +kernel⟩, ⟨noHazard_of, by decide +kernel⟩, ⟨noHazard_of, by decide +kernel⟩,
    ⟨noHazard_of, by decide +kernel⟩, ⟨noHazard_of, by decide +kernel⟩, ⟨noHazard_of, by decide +kernel⟩, noHazard_of,
    by decide +kernel⟩

theorem test_witness_JumpCompletes :
    (let x := jArgs (.c 62#6 0x2001#32);
      s0.NoHazard x.len none ∧ s0.prevDslot = false ∧ s0.LoopReady x.len false false ∧ s0.condMet x.cond = true ∧
      s0.value x.len 1 x.src2 = .ok 0x2001#32 ∧
      s0.slotCheck x.len (jumpKind true x.len.limm) (some (0x2001#32 &&& 0xFFFFFFFE#32)) = .ok false) ∧
    (let x := jArgs (.ccu6 4#6 1#5);
      s0.NoHazard x.len none ∧ s0.LoopReady x.len false false ∧ s0.condMet x.cond = false ∧
      s0.slotCheck x.len (jumpKind false x.len.limm) none = .ok false) ∧
    (let s := loopState 2;
      let x := jArgs (.c 2#6 0#32)
      s.NoHazard x.len none ∧ s.LoopReady x.len false false ∧ s.value x.len 1 x.src2 = .ok 0#32 ∧
      s.slotCheck x.len (jumpKind false x.len.limm) (some (0#32 &&& 0xFFFFFFFE#32)) = .ok true) ∧
    (let form : JDForm := .ccc 2#6 2#5;
      let x := jdArgs form
      let l : Len := ⟨false, false⟩
      form.fits = true ∧ s0.NoHazard l none ∧ s0.LoopReady l false false ∧ s0.condMet x.cond = true ∧
      s0.value l 1 x.src2 = .ok 0#32 ∧ s0.slotCheck l .linkDelayed (some (0#32 &&& 0xFFFFFFFE#32)) = .ok false) ∧
    (let form : JDForm := .ccu6 2#6 1#5;
      form.fits = true ∧ s0.condMet (jdArgs form).cond = false ∧ s0.slotCheck ⟨false, false⟩ .delayed none = .ok false) :=
  ⟨⟨noHazard_of, by decide +kernel, loopReady_of, by decide +kernel⟩, ⟨noHazard_of, loopReady_of, by decide +kernel⟩,
    ⟨noHazard_of, loopReady_of, by decide +kernel⟩, ⟨by decide, noHazard_of, loopReady_of, by decide +kernel⟩,
    by decide +kernel⟩

theorem test_witness_BranchCompletes :
    let l : Len := ⟨false, false⟩
    s0.NoHazard l none ∧ s0.prevDslot = false ∧ s0.LoopReady l false false ∧ condHolds s0.cfg 0#5 s0.flags = true ∧
    condHolds s0.cfg 1#5 s0.flags = false ∧
    s0.slotCheck l (relKind true true) (some ((s0.pc &&& 0xFFFFFFFC#32) + 4 * (0x40000#19 : BitVec 19).signExtend 32)) = .ok false ∧
    s0.slotCheck l (relKind false false) none = .ok false ∧ s0.fetch16 (s0.pc + l.bytes) = some 0#16 :=
  ⟨noHazard_of, by decide +kernel, loopReady_of, by decide +kernel⟩

theorem test_witness_CompareBranchCompletes :
    (let form : BrForm := .bcs9 1#6 62#6 0x80#8 false 9#32;
      let l := len32 form.limmPart
      form.fits = true ∧ s0.NoHazard l none ∧ s0.prevDslot = false ∧ s0.LoopReady l false false ∧
      s0.value l 0 (.reg 1#6 9#32) = .ok 0#32 ∧ s0.value l 1 (.reg 62#6 9#32) = .ok 9#32 ∧
      brTaken .brne 0#32 9#32 = true ∧
      s0.slotCheck l .cmp (some ((s0.pc &&& 0xFFFFFFFC#32) + 2 * (0x80#8 : BitVec 8).signExtend 32)) = .ok false) ∧
    (let form : BrForm := .bu6s9 1#6 63#6 0x7F#8 true 0#32;
      let l := len32 form.limmPart
      form.fits = true ∧ s0.NoHazard l none ∧ s0.LoopReady l false false ∧ s0.value l 0 (.reg 1#6 0#32) = .ok 0#32 ∧
      s0.value l 1 (.imm ((63#6 : BitVec 6).setWidth 32)) = .ok 63#32 ∧ brTaken .bbit1 0#32 63#32 = false ∧
      s0.slotCheck l .cmpDelayed none = .ok false) :=
  ⟨⟨by decide, noHazard_of, by decide +kernel, loopReady_of, by decide +kernel⟩, by decide, noHazard_of, loopReady_of,
    by decide +kernel⟩

theorem test_witness_Branch16Completes :
    s0.NoHazard len16 none ∧ s0.prevDslot = false ∧ s0.LoopReady len16 false false ∧
    s0.slotCheck len16 .linkDelayed (some 0#32) = .ok false ∧ s0.slotCheck len16 .cmp none = .ok false :=
  ⟨noHazard_of, by decide +kernel, loopReady_of, by decide +kernel⟩

theorem test_witness_ReturnCompletes :
    let l : Len := ⟨false, false⟩
    s0.NoHazard l none ∧ s0.prevDslot = false ∧ s0.prevFlag = false ∧ s0.prevSrStatusL = false ∧
    s0.LoopReady l false false ∧ condHolds s0.cfg 2#5 s0.flags = true ∧ condHolds s0.cfg 1#5 s0.flags = false ∧
    s0.slotCheck l .delayed (some (s0.reg 30 &&& 0xFFFFFFFE#32)) = .ok false ∧ s0.slotCheck l .plain none = .ok false :=
  ⟨noHazard_of, by decide +kernel, by decide +kernel, by decide +kernel, loopReady_of, by decide +kernel⟩

theorem test_witness_LpCompletes :
    let l : Len := ⟨false, false⟩
    s0.NoHazard l none ∧ s0.prevDslot = false ∧ s0.lpBarred l = false ∧ s0.LoopReady l false false ∧
    s0.loopTooShort (s0.pc + 4#32) ((s0.pc &&& 0xFFFFFFFC#32) + 2 * (6#12 : BitVec 12).signExtend 32) = false ∧
    condHolds s0.cfg 1#5 s0.flags = false :=
  ⟨noHazard_of, by decide +kernel, by decide +kernel, loopReady_of, by decide +kernel⟩

theorem test_witness_EndOfInstruction :
    let s := loopState 1
    s.pc + (⟨false, false⟩ : Len).bytes = s.lpEnd ∧ s0.pc + len16.bytes ≠ s0.lpEnd ∧
    ({ s0 with delayTarget := some 8#32 } : State).delayTarget = some 8#32 ∧
    ({ transfer := some (4#32, true) } : Ending).transfer = some (4#32, true) ∧
    ({ transfer := some (4#32, false) } : Ending).transfer = some (4#32, false) := by decide +kernel

theorem test_witness_LoopRunsCountTimes :
    let l : Len := ⟨false, false⟩
    let pass : Nat → State := fun k => { loopState 1 with lpCount := bif k == 0 then 2#32 else 1#32 }
    (0 < 2 ∧ 2 < 2 ^ 32) ∧
    (∀ k, k < 2 → (pass k).pc + l.bytes = 0x104#32 ∧ (pass k).lpEnd = 0x104#32 ∧ (pass k).lpStart = 0x100#32 ∧
      (pass k).delayTarget = none) ∧
    (pass 0).lpCount = BitVec.ofNat 32 2 ∧
    (∀ k, k + 1 < 2 → (pass (k + 1)).lpCount = ((pass k).ended l {} (pass k)).lpCount) := by
  refine ⟨by decide, ?_, by decide +kernel, ?_⟩
  · intro k hk
    interval_cases k <;> decide +kernel
  · intro k hk
    obtain rfl : k = 0 := by omega
    decide +kernel

theorem test_witness_LoopSlotStops :
    let l : Len := ⟨false, false⟩
    ((loopState 1).loopSlotOf l = some 0 ∧ (loopState 2).loopSlotOf l = some 1 ∧ (loopState 3).loopSlotOf l = some 2 ∧
      (loopState 4).loopSlotOf l = some 3) ∧
    (let s := loopState 1;
      let x := relArgs none (simm (0#24 : BitVec 24) 1) false false l
      (Instr.b_s25 0#24 false).shape.branchArgs = some x ∧ s.NoHazard x.len none ∧ s.prevDslot = false ∧
      s.branchTaken x = .ok true ∧ s.branchTarget x = .ok 0x100#32 ∧ x.kind = .plain ∧ s.lpStart.toNat ≤ (0x100#32 : Word).toNat ∧
      (0x100#32 : Word).toNat < s.lpEnd.toNat) ∧
    (let s := loopState 1;
      let x := relArgs (some 1#5) (simm (0#19 : BitVec 19) 2) true false l
      (Instr.blcc 0#19 false 1#5).shape.branchArgs = some x ∧ s.NoHazard x.len none ∧ s.branchTaken x = .ok false ∧
      x.kind = .link) ∧
    (let s := (loopState 1).setReg 29 0x101#32;
      s.NoHazard l none ∧ s.prevDslot = false ∧ s.prevFlag = false ∧ s.prevSrStatusL = false ∧ s.loopSlotOf l = some 0 ∧
      s.lpStart.toNat ≤ (s.reg 29 &&& 0xFFFFFFFE#32).toNat ∧ (s.reg 29 &&& 0xFFFFFFFE#32).toNat < s.lpEnd.toNat) ∧
    ((loopState 2).NoHazard l none ∧ (loopState 2).prevDslot = false) ∧
    (let s := loopState 3;
      let x := srArgs (.bs12 1#6 3#12 0#32)
      s.NoHazard x.len none ∧ s.value1 x = .ok 0#32 ∧ s.value x.len 1 x.src2 = .ok 3#32 ∧ s.loopSlotOf x.len = some 2) :=
  ⟨by decide +kernel, ⟨rfl, noHazard_of, by decide +kernel⟩, ⟨rfl, noHazard_of, by decide +kernel⟩,
    ⟨noHazard_of, by decide +kernel⟩, ⟨noHazard_of, by decide +kernel⟩, noHazard_of, by decide +kernel⟩

theorem test_witness_LoopSetupStops :
    let l : Len := ⟨false, false⟩
    (s0.NoHazard l none ∧ s0.prevDslot = false ∧ s0.lpBarred l = false ∧ s0.lenAt 4#32 = some l ∧ s0.lenAt 8#32 = some l ∧
      (s0.pc &&& 0xFFFFFFFC#32) + 2 * (4#12 : BitVec 12).signExtend 32 = 8#32 ∧ (8#32 - 4#32 : Word).toNat < 4 + 4) ∧
    ((s0.placeHalves 4#32 [0x2600#16, 0x7F81#16]).lenAt 4#32 = some ⟨false, true⟩ ∧
      (s0.placeHalves 4#32 [0x2600#16, 0x7F81#16]).lpBarred l = false) ∧
    (let s : State := { s0 with cfg := { Config.default with invalidMemory := [⟨8, 16, true, false, false⟩] } };
      s.lpBarred l = false ∧ s.lenAt 4#32 = some l ∧ s.lenAt 8#32 = none ∧ (8#32 - 4#32 : Word).toNat < 4 + 2) ∧
    (let s : State := { loopState 1 with lpcAge := 2 }; s.pc + l.bytes = s.lpEnd ∧ s.lpcAge + l.words < 4) ∧
    (let s : State := { loopState 1 with lpseAge := 1 };
      s.pc + l.bytes = s.lpEnd ∧ 4 ≤ s.lpcAge + l.words ∧ s.lpseAge + l.words < 3) ∧
    (let s := loopState 1;
      let x := genArgs fCount
      s.NoHazard x.len (aluNeeds .add) ∧ s.condMet x.cond = true ∧ s.value1 x = .ok 0#32 ∧ s.value x.len 1 x.src2 = .ok 0#32 ∧
      s.pc + x.len.bytes = s.lpEnd ∧ fCount.dest = 60#6) ∧
    (let s : State := { loopState 1 with lpcAge := 0 };
      s.pc + BitVec.ofNat 32 (Instr.swi).length = s.lpEnd ∧ s.lpcAge + 1 < 4 ∧
      ∃ t, exec .swi s = .next t ∧ (t.pc == s.intVectorBase + 16#32) = true) :=
  ⟨⟨noHazard_of, by decide +kernel⟩, by decide +kernel, by decide +kernel, by decide +kernel, by decide +kernel,
    ⟨noHazard_of, by decide +kernel⟩, by decide +kernel, by decide +kernel, next_of⟩

theorem test_witness_FlagCompletes :
    (let x := jArgs (.c 62#6 0xF07#32);
      s0.NoHazard x.len none ∧ s0.LoopReady x.len false false ∧ s0.condMet x.cond = true ∧
      s0.value x.len 1 x.src2 = .ok 0xF07#32 ∧ (0xF07#32 : Word).getLsbD 0 = true) ∧
    (let x := jArgs (.ccu6 6#6 2#5);
      s0.NoHazard x.len none ∧ s0.LoopReady x.len false false ∧ s0.condMet x.cond = true ∧
      s0.value x.len 1 x.src2 = .ok 6#32 ∧ (6#32 : Word).getLsbD 0 = false) ∧
    s0.condMet (jArgs (.ccu6 6#6 1#5)).cond = false :=
  ⟨⟨noHazard_of, loopReady_of, by decide +kernel⟩, ⟨noHazard_of, loopReady_of, by decide +kernel⟩, by decide +kernel⟩

theorem test_witness_LrCompletes :
    (let form : LrForm := .bs12 60#6 0x25#12;
      let x := lrArgs form
      s0.NoHazard x.len none ∧ s0.LoopReady x.len (form.dest == 60#6) false ∧ s0.value x.len 1 x.src2 = .ok 0x25#32) ∧
    isExtAux { Config.default with extAux := [7#32, 0x80#32] } 0x80#32 = true ∧
    s0.loadSeen = false ∧ (0x60 ≤ (0x60#32 : Word).toNat ∧ (0x7F#32 : Word).toNat ≤ 0x7F) :=
  ⟨⟨noHazard_of, loopReady_of, by decide +kernel⟩, by decide +kernel⟩

theorem test_witness_SrCompletes :
    (let x := srArgs (.bs12 62#6 0x12#12 5#32);
      s0.NoHazard x.len none ∧ s0.LoopReady x.len false (0x12#32 == 2#32 || (0x12#32 : Word) == 3#32) ∧
      s0.value1 x = .ok 5#32 ∧ s0.value x.len 1 x.src2 = .ok 0x12#32 ∧ s0.cfg.hasMul64 = true ∧
      (s0.afterReads x.sources).mulBusy = false ∧ s0.srBarred x.len 0x12#32 = false) ∧
    (let x := srArgs (.bc 1#6 62#6 3#32);
      s0.NoHazard x.len none ∧ s0.LoopReady x.len false (3#32 == 2#32 || (3#32 : Word) == 3#32) ∧ s0.value1 x = .ok 0#32 ∧
      s0.value x.len 1 x.src2 = .ok 3#32 ∧ s0.srBarred x.len 3#32 = false) ∧
    ({ s0 with cfg := { Config.default with hasMul64 := false } } : State).cfg.hasMul64 = false ∧
    ((7#32 : Word) ∉ [0x1#32, 0x2#32, 0x3#32, 0xB#32, 0xC#32, 0x12#32, 0x25#32] ∧ isExtAux s0.cfg 7#32 = false) ∧
    (0xA#32 : Word) ∈ [0x0#32, 0x4#32, 0x5#32, 0x6#32, 0xA#32] ∧ (0x60 ≤ (0x7F#32 : Word).toNat ∧ (0x7F#32 : Word).toNat ≤ 0x7F) ∧
    (let s := State.resetWith { Config.default with extAux := [7#32, 0x80#32] };
      isExtAux s.cfg 7#32 = true ∧ isExtAux s.cfg 0x80#32 = true ∧ s.auxExt.length = s.cfg.extAux.length) :=
  ⟨⟨noHazard_of, loopReady_of, by decide +kernel⟩, ⟨noHazard_of, loopReady_of, by decide +kernel⟩, by decide +kernel⟩

theorem test_witness_SemaphoreProtocol : 0 < s0.cfg.semaphoreBits ∧ 3 < s0.cfg.semaphoreBits ∧ 3 < 32 := by decide +kernel

theorem test_witness_SystemCompletes :
    s0.haltShadow = 0 ∧ s0.prevCmpBranch = false ∧ s0.delayTarget = none ∧ s0.LoopReady ⟨false, false⟩ false false ∧
    s0.LoopReady len16 false false ∧ s0.singleStep = false ∧ ({ s0 with singleStep := true } : State).singleStep = true :=
  ⟨by decide +kernel, by decide +kernel, by decide +kernel, loopReady_of, loopReady_of, by decide +kernel, by decide +kernel⟩

theorem test_witness_HostStatusWrite :
    s0.h = false ∧ ({ s0 with h := true } : State).h = true ∧ (0xF07#32 : Word).getLsbD 0 = true ∧
    (0xF06#32 : Word).getLsbD 0 = false := by decide +kernel

theorem test_witness_HazardStops :
    (Instr.brk_s ≠ .nop ∧ Instr.brk_s ≠ .nop_s ∧ ({ s0 with haltShadow := 3 } : State).haltShadow ≠ 0) ∧
    (let i : Instr := .add (.abc false 1#6 62#6 3#6 5#32);
      let s : State := { s0 with prevDslot := true }
      i.hasLimm = true ∧ present s.cfg i = true ∧ s.haltShadow = 0 ∧ s.prevDslot = true) ∧
    (Instr.j_s_b 1#3).hasLimm = false ∧
    (let s : State := { s0 with prevCmpBranch := true }; s.haltShadow = 0 ∧ s.prevCmpBranch = true) ∧
    (let s : State := { s0 with delayTarget := some 8#32 };
      s.haltShadow = 0 ∧ s.prevCmpBranch = false ∧ s.delayTarget = some 8#32) ∧
    (let s : State := { s0 with prevFlag := true }; s.haltShadow = 0 ∧ s.prevDslot = false ∧ s.prevFlag = true) ∧
    (let s : State := { s0 with prevSrStatusL := true }; s.haltShadow = 0 ∧ s.prevDslot = false ∧ s.prevSrStatusL = true) ∧
    (let s : State := { s0 with prevCmpBranch := true, prevDslot := true, delayTarget := some 8#32 };
      s.haltShadow = 0 ∧ s.delayTarget = some 8#32) ∧
    (let s : State := { s0 with mulBusy := true };
      let x := srArgs (.bc 1#6 62#6 0x12#32)
      s.NoHazard x.len none ∧ s.value1 x = .ok 0#32 ∧ s.value x.len 1 x.src2 = .ok 0x12#32 ∧ s.cfg.hasMul64 = true ∧
      (s.afterReads x.sources).mulBusy = true) ∧
    (let i : Instr := .norm (.bc false 1#6 61#6 0#32);
      .reg 61#6 0#32 ∈ i.shape.sources ∧ s0.condMet i.shape.cond = true ∧ present s0.cfg i = true ∧ s0.haltShadow = 0 ∧
      s0.prevDslot = false ∧ i.shape.branchArgs = none) ∧
    (let i : Instr := .ld (.rr 1#6 62#6 61#6 0#2 false 5#32);
      .reg 61#6 5#32 ∈ i.shape.sources ∧ s0.condMet i.shape.cond = true ∧ present s0.cfg i = true ∧
      i.shape = .load .long (.rr 1#6 62#6 61#6 0#2 false 5#32) ∧ i.shape.branchArgs = none) :=
  ⟨by decide +kernel, by decide +kernel, by decide +kernel, by decide +kernel, by decide +kernel, by decide +kernel,
    by decide +kernel, by decide +kernel, ⟨noHazard_of, by decide +kernel⟩, by decide +kernel, by decide +kernel⟩

theorem test_witness_InvariantKept :
    let s : State := { s0 with pc := 0x100#32, lpStart := 0x100#32, lpEnd := 0x1000#32, delayTarget := none }
    s.Inv ∧ ∃ t, step s = .next t ∧ (t.draw == 1) = true :=
  ⟨⟨by decide, by decide, by decide, by decide, (fun t h => by cases h), by decide, by decide, by decide, by decide, by decide,
    by decide, by decide, by decide, by decide, by decide +kernel, by decide⟩, next_of⟩

theorem test_witness_ResetIsLegal_ResetValues :
    s0.mem.wf = true ∧ Config.default.wf = true ∧
    ({ Config.default with
      intVectorBaseReset := 0x12345400#32, semaphoreBits := 32, extCore := [32#6, 56#6], extAux := [7#32],
      extCond := [(16#5, 0#16)], irqLines := [⟨4, .one⟩, ⟨3, .two⟩], loadLatency := some 3, hasICache := true } : Config).wf = true := by
  decide +kernel

/-- A vector base that is not on a 1 KB boundary is no legal parameter (00_scope.md R7), nor is an extension r57. -/
theorem test_config_refused :
    ({ Config.default with intVectorBaseReset := 0x200#32 } : Config).wf = false ∧
    ({ Config.default with extCore := [57#6] } : Config).wf = false ∧
    ({ Config.default with irqLines := [⟨4, .one⟩] } : Config).wf = false := by decide +kernel

/-- r57 to r59 are read-only without the multiplier too (10_state.md R31, 44_load_store.md R443). -/
theorem test_mulResultReadOnly :
    let s := State.resetWith { Config.default with hasMul64 := false, extCore := [57#6, 58#6, 59#6] }
    s.writeCore 57#6 5#32 = s ∧ s.writeCore 58#6 5#32 = s ∧ s.writeCore 59#6 5#32 = s := by decide +kernel

theorem test_witness_SpecialRegisterFrame :
    (∃ t, exec (.lp (.s13 8#12)) s0 = .next t ∧ (t.lpStart != s0.lpStart && t.lpEnd != s0.lpEnd) = true) ∧
    (∃ t, exec (.sr (.bs12 62#6 0x25#12 0x400#32)) s0 = .next t ∧ (t.intVectorBase != s0.intVectorBase) = true) ∧
    (∃ t, exec (.sr (.bs12 62#6 0xB#12 6#32)) s0 = .next t ∧ (t.statusL1 != s0.statusL1) = true) ∧
    (∃ t, exec (.sr (.bs12 62#6 1#12 6#32)) s0 = .next t ∧ (t.semCpu != s0.semCpu) = true) ∧
    (∃ t, exec .swi { s0 with e1 := true } = .next t ∧ (t.statusL2 != s0.statusL2) = true) ∧
    (∃ t, exec (.mul64 (.bu6 62#6 3#6 5#32)) s0 = .next t ∧ (t.mulres != s0.mulres) = true) ∧
    (∃ t, exec (.flag (.u6 1#6)) s0 = .next t ∧ (t.sh != s0.sh) = true) ∧
    (∃ t, exec .brk_s s0 = .next t ∧ (t.bh != s0.bh) = true) ∧
    (∃ t, exec .sleep s0 = .next t ∧ (t.zz != s0.zz) = true) ∧
    (s0.pc + BitVec.ofNat 32 (Instr.nop).length ≠ s0.lpEnd ∧ 60 ∉ (Instr.nop).shape.destRegs) :=
  ⟨next_of, next_of, next_of, next_of, next_of, next_of, next_of, next_of, next_of, by decide +kernel⟩

theorem test_witness_MemoryFrame :
    ((Instr.nop).shape.stores = false ∧ ∃ t, exec .nop s0 = .next t ∧ true = true) ∧
    (let i := Instr.ofShape (.store .long 62#6 1#6 4#9 1#2 false 5#32);
      s0.mem.wf = true ∧ s0.readCore ⟨false, true⟩ 0 1#6 5#32 = .ok 0#32 ∧
      ∃ t, exec i s0 = .next t ∧ (t.readByte 4#32 == 5#8) = true) ∧
    (let s := s0.setReg 1 0xAB#32;
      (∃ t, exec (.st_s_cbu7 1#3 0#3 1#5) s = .next t ∧ (t.readByte 4#32 == 0xAB#8) = true) ∧
      (∃ t, exec (.stb_s_cbu5 1#3 0#3 1#5) s = .next t ∧ (t.readByte 1#32 == 0xAB#8) = true) ∧
      (∃ t, exec (.stw_s_cbu6 1#3 0#3 1#5) s = .next t ∧ (t.readByte 2#32 == 0xAB#8) = true) ∧
      (∃ t, exec (.st_s_bspu7 1#3 1#5) s = .next t ∧ (t.readByte 4#32 == 0xAB#8) = true) ∧
      (∃ t, exec (.stb_s_bspu7 1#3 1#5) s = .next t ∧ (t.readByte 4#32 == 0xAB#8) = true) ∧
      (∃ t, exec (.push_s_b 1#3) s = .next t ∧ (t.readByte 0xFFFFFFFC#32 == 0xAB#8) = true) ∧
      (∃ t, exec .push_s_blink (s0.setReg 31 0xAB#32) = .next t ∧ (t.readByte 0xFFFFFFFC#32 == 0xAB#8) = true)) :=
  ⟨⟨by decide +kernel, next_of (p := fun _ => true)⟩, ⟨by decide +kernel, by decide +kernel, next_of⟩, next_of, next_of, next_of,
    next_of, next_of, next_of, next_of⟩

theorem test_witness_CoreRegisterFrame :
    30 ∉ (Instr.swi).shape.destRegs ∧ ∃ t, exec .swi s0 = .next t ∧ (t.reg 30 != s0.reg 30) = true :=
  ⟨by decide +kernel, next_of⟩

theorem test_witness_FlagFrame :
    ((Instr.nop).shape.setsFlags = false ∧ ∃ t, exec .nop s0 = .next t ∧ true = true) ∧
    (∃ t, exec (.and (.abc true 1#6 2#6 3#6 0#32)) s0 = .next t ∧ t.flags.z = true) ∧
    (∃ t, exec (.btst (.bu6 2#6 3#6 0#32)) s0 = .next t ∧ t.flags.z = true) ∧
    (∃ t, exec (.mov (.bu6 true 2#6 0#6)) s0 = .next t ∧ t.flags.z = true) ∧
    (∃ t, exec (.normw (.bu6 true 2#6 0#6)) s0 = .next t ∧ t.flags.z = true) ∧
    (∃ t, exec (.lsr_multi (.abu6 true 1#6 62#6 1#6 3#32)) s0 = .next t ∧ t.flags.c = true) ∧
    (∃ t, exec (.rrc (.bu6 true 2#6 1#6)) s0 = .next t ∧ t.flags.c = true) :=
  ⟨⟨by decide +kernel, next_of (p := fun _ => true)⟩, next_of (p := fun t => t.flags.z), next_of (p := fun t => t.flags.z),
    next_of (p := fun t => t.flags.z), next_of (p := fun t => t.flags.z), next_of (p := fun t => t.flags.c),
    next_of (p := fun t => t.flags.c)⟩

theorem test_witness_HaltAndEnables :
    (∃ t, exec (.flag (.u6 1#6)) s0 = .next t ∧ t.h = true) ∧ (∃ t, exec .brk_s s0 = .next t ∧ t.h = true) ∧
    (∃ t, exec (.flag (.u6 6#6)) s0 = .next t ∧ (t.e1 && t.e2) = true) ∧
    (∃ t, exec (.j_f (.c true false)) { s0 with statusL2 := 6#32 } = .next t ∧ (t.e1 && t.e2) = true) ∧
    (∃ t, exec .swi { s0 with e1 := true, e2 := true } = .next t ∧ (!t.e1 && !t.e2) = true) :=
  ⟨next_of (p := fun t => t.h), next_of (p := fun t => t.h), next_of (p := fun t => t.e1 && t.e2),
    next_of (p := fun t => t.e1 && t.e2), next_of (p := fun t => !t.e1 && !t.e2)⟩

end Sys2Proof.Tests
end

section
/-! Reset gives a legal state: the vector base the manual asks for (on a 1 KB boundary) is an even address, and every other
field of the reset state meets its clause of `State.Inv` whatever the parameters. -/

namespace Sys2Proof

/-- A one-bit field is the bit itself. -/
theorem bitAt_eq_getLsbD {w : Nat} (x : BitVec w) (n : Nat) : bitAt x n = x.getLsbD n := by
  have hbit : x.extractLsb' n 1 = BitVec.ofBool (x.getLsbD n) := by
    apply BitVec.eq_of_getLsbD_eq
    intro i hi
    obtain rfl : i = 0 := by omega
    simp
  unfold bitAt
  rw [hbit]
  cases x.getLsbD n <;> rfl

/-- The two spellings of a 1 KB boundary: the bits 9 to 0 as a field, and under a mask. -/
theorem and_0x3FF_eq_zero_of_extractLsb' {v : Word} (h : v.extractLsb' 0 10 = 0#10) : v &&& 0x3FF#32 = 0#32 := by
  have hmod : v.toNat % 2 ^ 10 = 0 := by simpa using congrArg BitVec.toNat h
  apply BitVec.eq_of_toNat_eq
  calc (v &&& 0x3FF#32).toNat
      _ = v.toNat &&& (2 ^ 10 - 1) := BitVec.toNat_and v 0x3FF#32
      _ = v.toNat % 2 ^ 10 := Nat.and_two_pow_sub_one_eq_mod _ 10
      _ = 0 := hmod

/-- An address on a 1 KB boundary is even. -/
theorem bitAt_zero_of_and_0x3FF_eq_zero {v : Word} (h : v &&& 0x3FF#32 = 0#32) : bitAt v 0 = false := by
  have hbit : (v &&& 0x3FF#32).getLsbD 0 = false := by rw [h]; rfl
  rw [bitAt_eq_getLsbD]
  simpa using hbit

namespace Config

/-- The vector base of legal parameters is on a 1 KB boundary (10_state.md R51). -/
theorem vectorBase_aligned_of_wf {cfg : Config} (h : cfg.wf = true) : cfg.intVectorBaseReset &&& 0x3FF#32 = 0#32 := by
  have hfield : cfg.intVectorBaseReset.extractLsb' 0 10 = 0#10 := by
    simp only [wf, Bool.and_eq_true, beq_iff_eq] at h
    obtain ⟨⟨⟨⟨⟨⟨⟨_, hbase⟩, _⟩, _⟩, _⟩, _⟩, _⟩, _⟩ := h
    exact hbase
  exact and_0x3FF_eq_zero_of_extractLsb' hfield

/-- The default parameters are as the manual asks (92_eei_decisions.md section 1). -/
theorem wf_default : default.wf = true := by decide

end Config

namespace Machine

/-- A side that owns no semaphore bit fits any number of them. -/
theorem semFits_zero (cfg : Config) : semFits cfg 0#32 := BitVec.zero_and

/-- The state after reset is legal for all legal parameters. -/
theorem inv_resetWith {cfg : Config} (h : cfg.wf = true) : (State.resetWith cfg).Inv where
  mem := wf_resetWith cfg
  pc := bitAt_zero_of_and_0x3FF_eq_zero (Config.vectorBase_aligned_of_wf h)
  lpStart := rfl
  lpEnd := rfl
  target := by intro t ht; cases ht
  vectorBase := Config.vectorBase_aligned_of_wf h
  statusL1 := BitVec.zero_and
  statusL2 := BitVec.zero_and
  owners := BitVec.zero_and
  semCpu := semFits_zero cfg
  semHost := semFits_zero cfg
  haltShadow := Nat.zero_le 3
  lpcAge := Nat.le_refl 4
  lpseAge := Nat.le_refl 3
  cfg := h
  auxExt := List.length_replicate

/-- Settles O54: the general reset, and the default parameters as one case of it. -/
theorem resetIsLegal : Obligations.ResetIsLegal :=
  ⟨inv_resetWith Config.wf_default, fun _ => inv_resetWith⟩

end Machine

end Sys2Proof
end

section
/-! Even addresses: the operations that compute an instruction address give an even one. -/

namespace Sys2Proof

/-- Bit 0 clear is the number even. -/
theorem bitAt_zero_iff_even {w : Nat} (v : BitVec w) : bitAt v 0 = false ↔ v.toNat % 2 = 0 := by
  rw [bitAt_eq_getLsbD, BitVec.getLsbD, Nat.testBit_zero, decide_eq_false_iff_not]
  omega

theorem bitAt_zero_and_of_mask (v : Word) {m : Word} (hm : m.getLsbD 0 = false) : bitAt (v &&& m) 0 = false := by
  rw [bitAt_eq_getLsbD, BitVec.getLsbD_and, hm, Bool.and_false]

theorem bitAt_zero_add {a b : Word} (ha : bitAt a 0 = false) (hb : bitAt b 0 = false) : bitAt (a + b) 0 = false := by
  rw [bitAt_zero_iff_even] at *
  rw [BitVec.toNat_add]
  omega

namespace Machine

theorem bitAt_zero_clearBit0 (v : Word) : bitAt (clearBit0 v) 0 = false := bitAt_zero_and_of_mask v rfl

theorem bitAt_zero_pcl (s : State) : bitAt s.pcl 0 = false := bitAt_zero_and_of_mask s.pc rfl

theorem bitAt_zero_uimm {w : Nat} (u : BitVec w) {k : Nat} (hk : 0 < k) : bitAt (uimm u k) 0 = false := by
  simp [bitAt_eq_getLsbD, uimm, hk]

theorem bitAt_zero_simm {w : Nat} (d : BitVec w) {k : Nat} (hk : 0 < k) : bitAt (simm d k) 0 = false := by
  simp [bitAt_eq_getLsbD, simm, hk]

theorem bitAt_zero_lpDisp (form : LpForm) : bitAt (lpDisp form) 0 = false := by
  cases form with
  | s13 d => exact bitAt_zero_simm d Nat.one_pos
  | ccu7 u q => exact bitAt_zero_uimm u Nat.one_pos

theorem bitAt_zero_bytes (l : Len) : bitAt l.bytes 0 = false := by
  obtain ⟨short, limm⟩ := l
  cases short <;> cases limm <;> rfl

theorem bitAt_zero_npc {s : State} (h : bitAt s.pc 0 = false) (l : Len) : bitAt (s.npc l) 0 = false :=
  bitAt_zero_add h (bitAt_zero_bytes l)

/-- A vector lies at a multiple of 8 from a base on a 1 KB boundary (60_exceptions.md R570). -/
theorem bitAt_zero_vectorAddr {s : State} (h : s.intVectorBase &&& 0x3FF#32 = 0#32) (v : Nat) :
    bitAt (s.vectorAddr v) 0 = false := by
  have hv : bitAt (BitVec.ofNat 32 (8 * v)) 0 = false := by
    rw [bitAt_zero_iff_even, BitVec.toNat_ofNat]
    omega
  exact bitAt_zero_add (bitAt_zero_of_and_0x3FF_eq_zero h) hv

/-- The targets of a branch are even when its displacement is. -/
theorem bitAt_zero_branchTarget {s : State} {x : BranchArgs} (hx : ∀ rd, x.target = .rel rd → bitAt rd 0 = false) {t : Word}
    (h : s.branchTarget x = .ok t) : bitAt t 0 = false := by
  unfold State.branchTarget at h
  split at h
  · next rd hrd =>
    obtain rfl := Except.ok.inj h
    exact bitAt_zero_add (bitAt_zero_pcl s) (hx rd hrd)
  · split at h
    · cases h
    · obtain rfl := Except.ok.inj h
      exact bitAt_zero_clearBit0 _

/-- Every branch and jump has an even displacement, if it has one (43_branch_jump_loop.md R370). -/
theorem bitAt_zero_displacement {v : Shape} {x : BranchArgs} (hv : v.branchArgs = some x) {rd : Word}
    (hrd : x.target = .rel rd) : bitAt rd 0 = false := by
  cases v with
  | br op form => 
    obtain rfl := Option.some.inj hv
    cases form <;> exact BranchTarget.rel.inj hrd ▸ bitAt_zero_simm _ (by decide)
  | ctl16 form =>
    obtain rfl := Option.some.inj hv
    cases form with
    | br | b | bcc | bl => exact BranchTarget.rel.inj hrd ▸ bitAt_zero_simm _ (by decide)
    | j | jBlink | jCond => cases hrd
  | bcc | bfar | blcc | bl =>
    obtain rfl := Option.some.inj hv
    exact BranchTarget.rel.inj hrd ▸ bitAt_zero_simm _ (by decide)
  | jump | jumpD => obtain rfl := Option.some.inj hv; cases hrd
  | _ => cases hv

end Machine
end Sys2Proof
end

section
/-! What keeps a state legal: one rule per operation on the state, over `State.Inv`. -/

namespace Sys2Proof.Machine

/-- Masking leaves no bit outside the mask. -/
theorem and_and_not_self (v m : Word) : v &&& m &&& ~~~m = 0#32 := by
  rw [BitVec.and_assoc, BitVec.and_not_self]
  exact BitVec.and_zero

/-- What is claimed of the bits the other side does not own is disjoint from those it owns (10_state.md R43). -/
theorem and_not_and_and_self (v o m : Word) : v &&& ~~~o &&& m &&& o = 0#32 := by
  ext i
  cases h : o[i] <;> simp [h]

namespace State.Inv

variable {s : State}

theorem afterReads (h : s.Inv) (os : List Operand) : (s.afterReads os).Inv := by
  rw [afterReads_eq]
  exact { h with }

theorem writeCore (h : s.Inv) (r : Reg) (v : Word) : (s.writeCore r v).Inv := by
  rw [writeCore_eq]
  exact { h with }

theorem writeDest (h : s.Inv) (d : Option Reg) (v : Word) : (s.writeDest d v).Inv := by
  rw [writeDest_eq]
  exact { h with }

theorem writeBack (h : s.Inv) (d : Option Reg) (v : Option Word) : (s.writeBack d v).Inv := by
  rw [writeBack_eq]
  exact { h with }

theorem writeData (h : s.Inv) (sz : Size) (a v : Word) : (s.writeData sz a v).Inv := by
  have hm := wf_writeData h.mem sz a v
  rw [writeData_eq]
  exact { h with mem := hm }

theorem setStatus (h : s.Inv) (v : Word) : (s.setStatus v).Inv := { h with }

/-- SR keeps the layout of every auxiliary register (10_state.md R43 to R51). -/
theorem auxWrite (h : s.Inv) (a v : Word) : (s.auxWrite a v).Inv := by
  unfold State.auxWrite
  split
  case h_1 =>
    exact { h with
      owners := and_not_and_and_self v s.semHost _
      semCpu := and_and_not_self _ _ }
  case h_2 => exact { h with lpStart := bitAt_zero_clearBit0 v }
  case h_3 => exact { h with lpEnd := bitAt_zero_clearBit0 v }
  case h_4 => exact { h with statusL1 := and_and_not_self v _ }
  case h_5 => exact { h with statusL2 := and_and_not_self v _ }
  case h_6 => cases s.cfg.hasMul64 <;> exact { h with }
  case h_7 =>
    have hm : v &&& 0xFFFFFC00#32 &&& 0x3FF#32 = 0#32 := and_and_not_self v 0xFFFFFC00#32
    exact { h with vectorBase := hm }
  case h_8 =>
    cases isExtAux s.cfg a with
    | false => exact h
    | true => exact { h with auxExt := (List.length_set ..).trans h.auxExt }

/-- Every entry keeps a legal state legal: the vector is even, and the saved status has the layout of its register. -/
theorem enter (h : s.Inv) (level : Level) (v : Nat) (ret : Word) : (s.enter level v ret).Inv := by
  have hpc := bitAt_zero_vectorAddr h.vectorBase v
  have hs := and_and_not_self s.status32 statusLMask
  cases level with
  | one => exact { h with pc := hpc, statusL1 := hs, target := by rintro t ⟨⟩ }
  | two => exact { h with pc := hpc, statusL2 := hs, target := by rintro t ⟨⟩ }

end State.Inv

end Sys2Proof.Machine
end

section
/-! What an instruction can do, by its format: `Shape.Leaves` is the frame of its own effects, with one rule per operation on
the state; `Shape.Ends` is what its end rests on; `Shape.Outcome` lists the ways it can answer a next state. -/

namespace Sys2Proof

open Machine

/-! ### The end of an instruction -/

/-- The ending of an instruction of a format: it transfers to even addresses, with a pending target only after a `.D` form
(10_state.md R32, R62), and only a branch or jump can leave LP_COUNT unpredictable (43_branch_jump_loop.md R427). -/
structure Shape.Ends (v : Shape) (e : Ending) : Prop where
  even : ∀ t d, e.transfer = some (t, d) → bitAt t 0 = false
  slot : ∀ t, e.transfer = some (t, true) → e.dslotForm = true
  lpCountFree : e.lpCountFree = true → v.branchArgs.isSome = true ∨ ∃ form, v = .jumpF form

/-- An instruction that transfers nowhere. -/
theorem Shape.Ends.of_no_transfer (v : Shape) {e : Ending} (ht : e.transfer = none) (hf : e.lpCountFree = false) :
    v.Ends e where
  even := by simp [ht]
  slot := by simp [ht]
  lpCountFree := by simp [hf]

/-- An instruction that transfers to an even address, and is a `.D` form when it transfers after its delay slot. -/
theorem Shape.Ends.of_transfer {v : Shape} {e : Ending} {target : Word} {delayed : Bool}
    (ht : e.transfer = some (target, delayed)) (heven : bitAt target 0 = false) (hd : e.dslotForm = delayed)
    (hf : e.lpCountFree = true → v.branchArgs.isSome = true ∨ ∃ form, v = .jumpF form) : v.Ends e where
  even := by
    rw [ht]
    rintro t d ⟨⟩
    exact heven
  slot := by
    rw [ht, hd]
    exact fun t h => (Prod.mk.inj (Option.some.inj h)).2
  lpCountFree := hf

namespace Machine

theorem bitAt_zero_loopPc {s : State} (h : s.Inv) (l : Len) : bitAt (s.loopPc l) 0 = false := by
  unfold State.loopPc
  cases s.atLoopEnd l && s.lpCount != 0#32 && s.lpCount != 1#32 with
  | false => exact bitAt_zero_npc h.pc l
  | true => exact h.lpStart

theorem bitAt_zero_nextPc {s : State} (h : s.Inv) (l : Len) {v : Shape} {e : Ending} (he : v.Ends e) :
    bitAt (s.nextPc l e).1 0 = false := by
  unfold State.nextPc
  split
  case h_1 t ht => exact he.even t _ ht
  case h_2 => exact bitAt_zero_loopPc h l
  case h_3 =>
    split
    case h_1 t ht => exact (h.target t ht).1
    case h_2 => exact bitAt_zero_loopPc h l

/-- Only a delayed transfer leaves a pending target (43_branch_jump_loop.md R371). -/
theorem transfer_of_nextPc_target {s : State} {l : Len} {e : Ending} {t : Word} (h : (s.nextPc l e).2 = some t) :
    e.transfer = some (t, true) := by
  unfold State.nextPc at h
  split at h
  case h_1 => cases h
  case h_2 ht => rw [ht, Option.some.inj h]
  case h_3 => split at h <;> cases h

/-- The boundary after an instruction keeps a legal state legal. -/
theorem State.Inv.ended {s u : State} (hs : s.Inv) (hu : u.Inv) (l : Len) {v : Shape} {e : Ending} (he : v.Ends e) :
    (s.ended l e u).Inv :=
  { hu with
    pc := bitAt_zero_nextPc hs l he
    target := fun t ht =>
      have htr := transfer_of_nextPc_target ht
      ⟨he.even t true htr, he.slot t htr⟩
    lpcAge := by
      rw [ended_lpcAge, State.nextLpcAge]
      cases e.wroteLpCount <;> simp
    lpseAge := by
      rw [ended_lpseAge, State.nextLpseAge]
      cases e.wroteLoopBounds <;> simp }

end Machine

/-! ### What an instruction leaves -/

theorem Shape.mem_destRegs {v : Shape} {n : Nat} : n ∈ v.destRegs ↔ ∃ r, some r ∈ v.dests ∧ r.toNat = n := by
  simp [destRegs, regList]

/-- What an instruction of a format leaves unchanged between the state `s` it starts in and the state `u` that its own
effects give: everything its format gives it no right to write. -/
structure Shape.Leaves (v : Shape) (s u : State) : Prop where
  regs : ∀ n, n ∉ v.destRegs → u.reg n = s.reg n
  lpCount : 60 ∉ v.destRegs → u.lpCount = s.lpCount
  flags : u.flags ≠ s.flags → v.setsFlags = true
  halt : u.h = s.h ∨ ((∃ form, v = .flag form) ∧ u.h = true)
  enables : u.e1 ≠ s.e1 ∨ u.e2 ≠ s.e2 → (∃ form, v = .flag form) ∨ ∃ form, v = .jumpF form
  lpStart : u.lpStart ≠ s.lpStart → (∃ form, v = .sr form) ∨ ∃ form, v = .lp form
  lpEnd : u.lpEnd ≠ s.lpEnd → (∃ form, v = .sr form) ∨ ∃ form, v = .lp form
  intVectorBase : u.intVectorBase ≠ s.intVectorBase → ∃ form, v = .sr form
  auxExt : (∃ form, v = .sr form) ∨ u.auxExt = s.auxExt
  statusL1 : u.statusL1 ≠ s.statusL1 → ∃ form, v = .sr form
  statusL2 : u.statusL2 ≠ s.statusL2 → ∃ form, v = .sr form
  semCpu : u.semCpu ≠ s.semCpu → ∃ form, v = .sr form
  mulres : u.mulres ≠ s.mulres →
    (∃ form, v = .sr form) ∨ (∃ sgn form, v = .mul sgn form) ∨ ∃ b c, v = .mul16 b c
  sh : u.sh ≠ s.sh → ∃ form, v = .flag form
  bh : u.bh = s.bh
  zz : u.zz ≠ s.zz → v = .sleep
  cfg : u.cfg = s.cfg
  semHost : u.semHost = s.semHost
  pending : u.pending = s.pending
  singleStep : u.singleStep = s.singleStep

namespace Machine

theorem reg_setReg_of_ne (s : State) {k n : Nat} (w : Word) (h : k ≠ n) : (s.setReg k w).reg n = s.reg n := by
  simp [State.reg, h]

/-- A write of a core register leaves the others (10_state.md R31). -/
theorem reg_writeCore_of_ne (s : State) {r : Reg} (w : Word) {n : Nat} (h : r.toNat ≠ n) :
    (s.writeCore r w).reg n = s.reg n := by
  simp only [State.writeCore, cond_eq_ite]
  split
  · exact reg_setReg_of_ne s w h
  · split
    · split
      · exact reg_setReg_of_ne s w h
      · rfl
    · split <;> rfl

theorem lpCount_writeCore_of_ne (s : State) {r : Reg} (w : Word) (h : r.toNat ≠ 60) :
    (s.writeCore r w).lpCount = s.lpCount := by
  have hr : r ≠ 60#6 := fun hr => h (congrArg BitVec.toNat hr)
  simp only [State.writeCore, cond_eq_ite, beq_iff_eq, hr, if_false]
  split
  · rfl
  · split
    · split <;> rfl
    · rfl

end Machine

namespace Shape.Leaves

variable {v : Shape} {s u : State}

theorem refl (v : Shape) (s : State) : v.Leaves s s := by constructor <;> simp

theorem afterReads (h : v.Leaves s u) (os : List Operand) : v.Leaves s (u.afterReads os) := by
  rw [afterReads_eq]
  exact { h with }

theorem writeCore (h : v.Leaves s u) {r : Reg} (hr : r.toNat ∈ v.destRegs) (w : Word) : v.Leaves s (u.writeCore r w) := by
  have hregs : ∀ n, n ∉ v.destRegs → (u.writeCore r w).reg n = s.reg n := fun n hn =>
    (reg_writeCore_of_ne u w (ne_of_mem_of_not_mem hr hn)).trans (h.regs n hn)
  have hlpc : 60 ∉ v.destRegs → (u.writeCore r w).lpCount = s.lpCount := fun hn =>
    (lpCount_writeCore_of_ne u w (ne_of_mem_of_not_mem hr hn)).trans (h.lpCount hn)
  rw [writeCore_eq]
  exact { h with regs := hregs, lpCount := hlpc }

theorem writeDest (h : v.Leaves s u) {d : Option Reg} (hd : ∀ r, d = some r → r.toNat ∈ v.destRegs) (w : Word) :
    v.Leaves s (u.writeDest d w) := by
  cases d with
  | none => exact h
  | some r => exact h.writeCore (hd r rfl) w

theorem writeBack (h : v.Leaves s u) {d : Option Reg} {w : Option Word}
    (hd : ∀ r x, d = some r → w = some x → r.toNat ∈ v.destRegs) : v.Leaves s (u.writeBack d w) := by
  cases d with
  | none => exact h
  | some r =>
    cases w with
    | none => exact h
    | some x => exact h.writeCore (hd r x rfl rfl) x

theorem writeData (h : v.Leaves s u) (sz : Size) (a w : Word) : v.Leaves s (u.writeData sz a w) := by
  rw [writeData_eq]
  exact { h with }

theorem withFlags (h : v.Leaves s u) {f : Flags} (hf : f ≠ s.flags → v.setsFlags = true) :
    v.Leaves s { u with flags := f } :=
  { h with flags := hf }

theorem setStatus (h : v.Leaves s u) (hv : (∃ form, v = .flag form) ∨ ∃ form, v = .jumpF form) (w : Word) :
    v.Leaves s (u.setStatus w) :=
  { h with
    flags := fun _ => by obtain ⟨form, rfl⟩ | ⟨form, rfl⟩ := hv <;> rfl
    enables := fun _ => hv }

theorem halts (h : v.Leaves s u) (hv : ∃ form, v = .flag form) (n : Nat) :
    v.Leaves s { u with h := true, sh := true, haltShadow := n } :=
  { h with halt := .inr ⟨hv, rfl⟩, sh := fun _ => hv }

theorem auxWrite (h : v.Leaves s u) (hv : ∃ form, v = .sr form) (a w : Word) : v.Leaves s (u.auxWrite a w) := by
  rw [auxWrite_eq]
  exact { h with
    lpStart := fun _ => .inl hv
    lpEnd := fun _ => .inl hv
    intVectorBase := fun _ => hv
    auxExt := .inl hv
    statusL1 := fun _ => hv
    statusL2 := fun _ => hv
    semCpu := fun _ => hv
    mulres := fun _ => .inl hv }

end Shape.Leaves

end Sys2Proof
end

section
/-! The ways an instruction can answer a next state, and that every instruction answers in one of them. -/

namespace Sys2Proof

open Machine

/-- The length of an instruction of a format (30_encoding.md R133). -/
def Shape.len (v : Shape) : Len := ⟨v.isShort, v.limmPart.1⟩

theorem Shape.bytes_len (i : Instr) : i.shape.len.bytes = BitVec.ofNat 32 i.length := by
  unfold Shape.len Instr.length Instr.base Instr.hasLimm
  cases i.shape.isShort <;> cases i.shape.limmPart.1 <;> rfl

/-- The ways an instruction of a format, started in `s`, can answer a next state: an exception (Memory Error at vector 1,
Instruction Error and SWI at vector 2), the halt of BRK_S, or its own effects `u` and the boundary after it. -/
inductive Shape.Outcome (v : Shape) (s : State) : State → Prop where
  | excepts {vec : Nat} (hvec : vec = 1 ∨ vec = 2) (ret : Word) : v.Outcome s (s.enter .two vec ret)
  | breaks (hv : v = .brk) : v.Outcome s { s with bh := true, h := true }
  | ends {e : Ending} {u : State} (he : v.Ends e) (hu : v.Leaves s u) (hi : s.Inv → u.Inv) :
    v.Outcome s (s.ended v.len e u)

namespace Shape.Outcome

variable {v : Shape} {s t : State}

theorem memoryError (ret : Word) : v.Outcome s (s.memoryError ret) := .excepts (.inl rfl) ret

theorem instructionError (ret : Word) : v.Outcome s (s.instructionError ret) := .excepts (.inr rfl) ret

/-- A format whose condition is false, or that does nothing of its own. -/
theorem idle {e : Ending} (he : v.Ends e) : v.Outcome s (s.ended v.len e s) :=
  .ends he (.refl v s) id

theorem of_runData {op : DataOp} {x : DataArgs} (hl : x.len = v.len) (hd : ∀ r, x.dest = some r → r.toNat ∈ v.destRegs)
    (hf : x.setFlags = true → v.setsFlags = true) (h : runData op x s = .next t) : v.Outcome s t := by
  obtain ⟨-, -, -, -, rfl⟩ | ⟨-, rfl⟩ | ⟨-, a, b, -, -, rfl⟩ := runData_next h
  · exact .instructionError _
  · rw [hl]
    exact idle (.of_no_transfer v rfl rfl)
  · rw [hl]
    refine .ends (.of_no_transfer v rfl rfl) ((((Leaves.refl v s).afterReads _).writeDest hd _).withFlags ?_)
      fun hi => { (hi.afterReads _).writeDest _ _ with }
    split
    · next hx => exact fun _ => hf hx
    · exact absurd rfl

theorem of_runMul {sgn : Bool} {x : DataArgs} (hl : x.len = v.len)
    (hv : (∃ sgn form, v = .mul sgn form) ∨ ∃ b c, v = .mul16 b c) (h : runMul sgn x s = .next t) : v.Outcome s t := by
  obtain ⟨-, -, rfl⟩ | ⟨-, rfl⟩ | ⟨-, a, b, -, -, rfl⟩ := runMul_next h
  · exact .instructionError _
  · rw [hl]
    exact idle (.of_no_transfer v rfl rfl)
  · rw [hl]
    exact .ends (.of_no_transfer v rfl rfl) { Leaves.refl v s with mulres := fun _ => .inr hv }
      fun hi => { hi with }

theorem of_runLoad {sgn : Bool} {dest : Reg} {x : MemArgs} (hl : x.len = v.len) (hd : dest.toNat ∈ v.destRegs)
    (hw : ∀ r base off w, x.wb = some r → (effAddr x.size base off x.aa).2 = some w → r.toNat ∈ v.destRegs)
    (h : runLoad sgn dest x s = .next t) : v.Outcome s t := by
  obtain ⟨-, base, off, -, -, -, ⟨-, rfl⟩ | ⟨-, rfl⟩⟩ := runLoad_next h
  · exact .memoryError _
  · rw [hl]
    have hu := (((Leaves.refl v s).afterReads [x.base, x.offset]).writeBack fun r => hw r base off).writeCore hd
    exact .ends (.of_no_transfer v rfl rfl) { hu _ with } fun hi =>
      { ((hi.afterReads [x.base, x.offset]).writeBack _ _).writeCore _ _ with }

theorem of_runStore {data : Operand} {x : MemArgs} (hl : x.len = v.len)
    (hw : ∀ r base off w, x.wb = some r → (effAddr x.size base off x.aa).2 = some w → r.toNat ∈ v.destRegs)
    (h : runStore data x s = .next t) : v.Outcome s t := by
  obtain ⟨base, w, off, -, -, -, -, ⟨-, rfl⟩ | ⟨-, rfl⟩⟩ := runStore_next h
  · exact .memoryError _
  · rw [hl]
    exact .ends (.of_no_transfer v rfl rfl)
      ((((Leaves.refl v s).afterReads _).writeData _ _ _).writeBack fun r => hw r base off)
      fun hi => ((hi.afterReads _).writeData _ _ _).writeBack _ _

theorem of_runBranch {x : BranchArgs} (hv : v.branchArgs = some x) (hl : x.len = v.len)
    (hd : x.link = true → rBLINK.toNat ∈ v.destRegs) (h : runBranch x s = .next t) : v.Outcome s t := by
  obtain ⟨-, ⟨-, target, free, ht, -, rfl⟩ | ⟨-, rfl⟩⟩ := runBranch_next h
  · rw [hl]
    have heven : bitAt target 0 = false := bitAt_zero_branchTarget (fun rd => bitAt_zero_displacement hv) ht
    refine .ends (.of_transfer rfl heven rfl fun _ => .inl (Option.isSome_of_mem hv)) ?_ fun hi => ?_
    · have hu := (Leaves.refl v s).afterReads (x.test.operands ++ x.target.operands)
      cases hlink : x.link with
      | false => exact hu
      | true => exact hu.writeCore (hd hlink) _
    · have hu := hi.afterReads (x.test.operands ++ x.target.operands)
      cases x.link with
      | false => exact hu
      | true => exact hu.writeCore rBLINK _
  · rw [hl]
    exact .ends (.of_no_transfer v rfl rfl) ((Leaves.refl v s).afterReads _) fun hi => hi.afterReads _

theorem of_runReturn {form : JFForm} (h : runReturn form s = .next t) : (Shape.jumpF form).Outcome s t := by
  obtain ⟨-, -, -, ⟨-, free, rfl⟩ | ⟨-, rfl⟩⟩ := runReturn_next h
  · exact .ends (.of_transfer rfl (bitAt_zero_clearBit0 _) rfl fun _ => .inr ⟨form, rfl⟩)
      ((Leaves.refl _ s).setStatus (.inr ⟨form, rfl⟩) _) fun hi => hi.setStatus _
  · exact idle (.of_no_transfer _ rfl rfl)

theorem of_runLp {form : LpForm} (h : runLp form s = .next t) : (Shape.lp form).Outcome s t := by
  have hstop : bitAt (s.pcl + lpDisp form) 0 = false := bitAt_zero_add (bitAt_zero_pcl s) (bitAt_zero_lpDisp form)
  have hv : ∃ f, Shape.lp form = .lp f := ⟨form, rfl⟩
  obtain ⟨-, ⟨-, rfl⟩ | ⟨-, rfl⟩⟩ := runLp_next h
  · exact .ends (.of_no_transfer _ rfl rfl)
      { Leaves.refl _ s with lpStart := fun _ => .inr hv, lpEnd := fun _ => .inr hv } fun hi =>
      { hi with lpStart := bitAt_zero_npc hi.pc _, lpEnd := hstop }
  · exact idle (.of_transfer rfl hstop rfl Bool.false_ne_true.elim)

theorem of_runFlag {form : JForm} (hl : (jArgs form).len = (Shape.flag form).len) (h : runFlag (jArgs form) s = .next t) :
    (Shape.flag form).Outcome s t := by
  obtain ⟨-, rfl⟩ | ⟨-, w, -, rfl⟩ := runFlag_next h
  · rw [hl]
    exact idle (.of_no_transfer _ rfl rfl)
  · rw [hl]
    have hu := (Leaves.refl (Shape.flag form) s).afterReads [(jArgs form).src2]
    have hv : ∃ f, Shape.flag form = .flag f := ⟨form, rfl⟩
    cases bitAt w 0 with
    | true => exact .ends (.of_no_transfer _ rfl rfl) (hu.halts hv 3) fun hi =>
        { hi.afterReads [(jArgs form).src2] with haltShadow := Nat.le_refl 3 }
    | false => exact .ends (.of_no_transfer _ rfl rfl) (hu.setStatus (.inl hv) w) fun hi =>
        (hi.afterReads _).setStatus w

theorem of_runLr {x : DataArgs} (hl : x.len = v.len) (hd : ∀ r, x.dest = some r → r.toNat ∈ v.destRegs)
    (h : runLr x s = .next t) : v.Outcome s t := by
  obtain ⟨a, -, rfl⟩ := runLr_next h
  rw [hl]
  exact .ends (.of_no_transfer v rfl rfl) (((Leaves.refl v s).afterReads _).writeDest hd _) fun hi =>
    (hi.afterReads _).writeDest _ _

theorem of_runSr {x : DataArgs} (hl : x.len = v.len) (hv : ∃ form, v = .sr form) (h : runSr x s = .next t) :
    v.Outcome s t := by
  obtain ⟨w, a, -, -, -, rfl⟩ := runSr_next h
  rw [hl]
  exact .ends (.of_no_transfer v rfl rfl) (((Leaves.refl v s).afterReads _).auxWrite hv a w) fun hi =>
    (hi.afterReads _).auxWrite a w

theorem of_runSleep (h : runSleep ⟨false, false⟩ s = .next t) : Shape.sleep.Outcome s t := by
  obtain ⟨-, rfl⟩ := runSleep_next h
  exact .ends (.of_no_transfer _ rfl rfl) { Leaves.refl _ s with zz := fun _ => rfl } fun hi => { hi with }

theorem of_runNop {l : Len} (hl : l = v.len) (h : runNop l s = .next t) : v.Outcome s t := by
  obtain rfl := runNop_next h
  rw [hl]
  exact .ends (.of_no_transfer v rfl rfl) { Leaves.refl v s with } fun hi =>
    { hi with haltShadow := (Nat.sub_le ..).trans hi.haltShadow }

theorem of_runSwi {l : Len} (h : runSwi l s = .next t) : v.Outcome s t := by
  obtain ⟨-, -, rfl⟩ := runSwi_next h
  exact .instructionError _

theorem of_runBreak {l : Len} (hv : v = .brk) (h : runBreak l s = .next t) : v.Outcome s t := by
  obtain ⟨-, rfl⟩ := runBreak_next h
  exact .breaks hv

end Shape.Outcome
end Sys2Proof
end

section
/-! Every instruction answers in one of the ways of `Shape.Outcome`: the operands of each format have its length, write where
the format says, and set flags when it does. -/

namespace Sys2Proof

open Machine

/-! ### The operands of the formats -/

theorem genArgs_len (form : GenForm) : (genArgs form).len = len32 form.limmPart := by cases form <;> rfl
theorem cmpArgs_len (form : CmpForm) : (cmpArgs form).len = len32 form.limmPart := by cases form <;> rfl
theorem movArgs_len (form : MovForm) : (movArgs form).len = len32 form.limmPart := by cases form <;> rfl
theorem sopArgs_len (form : SopForm) : (sopArgs form).len = len32 form.limmPart := by cases form <;> rfl
theorem jArgs_len (form : JForm) : (jArgs form).len = len32 form.limmPart := by cases form <;> rfl
theorem lrArgs_len (form : LrForm) : (lrArgs form).len = len32 form.limmPart := by cases form <;> rfl
theorem srArgs_len (form : SrForm) : (srArgs form).len = len32 form.limmPart := by cases form <;> rfl
theorem ldArgs_len (sz : Size) (form : LdForm) : (ldArgs sz form).len = len32 form.limmPart := by cases form <;> rfl

theorem Data16.args_len (form : Data16) : form.args.len = (Shape.data16 form).len := by
  cases form with
  | bc op b c => cases op <;> rfl
  | _ => rfl

theorem Data16.args_dest (form : Data16) : ∀ r, form.args.dest = some r → some r ∈ form.dests := by
  cases form with
  | bc op b c => cases op <;> exact fun r hr => List.mem_singleton.2 hr.symm
  | cmpBh | tst | btst | cmpU7 => rintro r ⟨⟩
  | _ => exact fun r hr => List.mem_singleton.2 hr.symm

theorem Data16.args_setFlags (form : Data16) : form.args.setFlags = (Shape.data16 form).setsFlags := by
  cases form with
  | bc op b c => cases op <;> rfl
  | _ => rfl

theorem Ld16.args_len (form : Ld16) : form.args.len = len16 := by cases form <;> rfl
theorem St16.args_len (form : St16) : form.args.len = len16 := by cases form <;> rfl

theorem Ld16.dest_mem_dests (form : Ld16) : some form.dest ∈ form.dests := by
  cases form <;> exact List.mem_cons_self

/-! ### The written base -/

/-- Only the modes `.A`/`.AW` and `.AB` write the base back (44_load_store.md R444). -/
theorem writtenBase_of_effAddr {sz : Size} {base off w : Word} {aa : BitVec 2} (h : (effAddr sz base off aa).2 = some w)
    (b : Reg) : writtenBase b aa = some b := by
  unfold effAddr at h
  split at h
  · cases h
  · next ha => rw [BitVec.eq_of_toNat_eq (y := 1#2) ha]; rfl
  · next ha => rw [BitVec.eq_of_toNat_eq (y := 2#2) ha]; rfl
  · cases sz <;> cases h

theorem LdForm.writtenBase_mem_dests {sz : Size} {form : LdForm} {r : Reg} {base off w : Word}
    (hr : (ldArgs sz form).wb = some r) (hw : (effAddr (ldArgs sz form).size base off (ldArgs sz form).aa).2 = some w) :
    some r ∈ form.dests := by
  cases form <;>
  · obtain rfl := Option.some.inj hr
    rw [← writtenBase_of_effAddr hw]
    exact List.mem_cons_of_mem _ List.mem_cons_self

theorem LdForm.dest_mem_dests (form : LdForm) : some (ldDest form) ∈ form.dests := by
  cases form <;> exact List.mem_cons_self

theorem Ld16.written_mem_dests {form : Ld16} {r : Reg} (hr : form.args.wb = some r) : some r ∈ form.dests := by
  cases form with
  | pop | popBlink => exact List.mem_cons_of_mem _ (List.mem_singleton.2 hr.symm)
  | _ => cases hr

theorem St16.written_mem_dests {form : St16} {r : Reg} (hr : form.args.wb = some r) :
    some r ∈ (Shape.store16 form).dests := by
  cases form with
  | push | pushBlink => exact List.mem_singleton.2 hr.symm
  | _ => cases hr

/-! ### Branches -/

theorem Shape.len_of_branchArgs {v : Shape} {x : BranchArgs} (h : v.branchArgs = some x) : x.len = v.len := by
  cases v with
  | jump link form => obtain rfl := Option.some.inj h; exact jArgs_len form
  | jumpD link form => obtain rfl := Option.some.inj h; cases form <;> rfl
  | br op form => obtain rfl := Option.some.inj h; cases form <;> rfl
  | ctl16 form => obtain rfl := Option.some.inj h; cases form <;> rfl
  | bcc | bfar | blcc | bl => obtain rfl := Option.some.inj h; rfl
  | _ => cases h

theorem Shape.blink_of_branchArgs {v : Shape} {x : BranchArgs} (h : v.branchArgs = some x) (hx : x.link = true) :
    some rBLINK ∈ v.dests := by
  cases v with
  | jump link form | jumpD link form =>
    obtain rfl := Option.some.inj h
    obtain rfl : link = true := hx
    exact List.mem_singleton_self _
  | blcc | bl => exact List.mem_singleton_self _
  | bcc | bfar => obtain rfl := Option.some.inj h; cases hx
  | br op form => obtain rfl := Option.some.inj h; cases form <;> cases hx
  | ctl16 form =>
    obtain rfl := Option.some.inj h
    cases form with
    | j link =>
      obtain rfl : link = true := hx
      exact List.mem_singleton_self _
    | bl => exact List.mem_singleton_self _
    | _ => cases hx
  | _ => cases h

/-! ### Every format -/

theorem Shape.mem_destRegs_of_dests {v : Shape} {r : Reg} (h : some r ∈ v.dests) : r.toNat ∈ v.destRegs :=
  Shape.mem_destRegs.2 ⟨r, h, rfl⟩

theorem Shape.Outcome.of_branch {v : Shape} {x : BranchArgs} {s t : State} (hv : v.branchArgs = some x)
    (h : runBranch x s = .next t) : v.Outcome s t :=
  .of_runBranch hv (Shape.len_of_branchArgs hv) (fun hx => Shape.mem_destRegs_of_dests (Shape.blink_of_branchArgs hv hx)) h

/-- A data format with one destination field. -/
theorem Shape.Outcome.of_data {v : Shape} {op : DataOp} {x : DataArgs} {s t : State} (hl : x.len = v.len)
    (hd : ∀ r, x.dest = some r → some r ∈ v.dests) (hf : x.setFlags = v.setsFlags) (h : runData op x s = .next t) :
    v.Outcome s t :=
  .of_runData hl (fun r hr => Shape.mem_destRegs_of_dests (hd r hr)) (fun hx => hf ▸ hx) h

theorem Shape.run_outcome {v : Shape} {s t : State} (h : v.run s = .next t) : v.Outcome s t := by
  cases v with
  | alu op form =>
    exact .of_data (genArgs_len form) (fun r hr => List.mem_singleton.2 (hr.symm.trans (genArgs_dest form)))
      (genArgs_setFlags form) h
  | test op form =>
    exact .of_data (cmpArgs_len form) (fun r hr => by rw [cmpArgs_dest] at hr; cases hr) (cmpArgs_setFlags form) h
  | mov form =>
    exact .of_data (movArgs_len form) (fun r hr => List.mem_singleton.2 (hr.symm.trans (movArgs_dest form)))
      (movArgs_setFlags form) h
  | sop op form =>
    exact .of_data (sopArgs_len form) (fun r hr => List.mem_singleton.2 (hr.symm.trans (sopArgs_dest form)))
      (sopArgs_setFlags form) h
  | data16 form => exact .of_data form.args_len form.args_dest form.args_setFlags h
  | mul sgn form => exact .of_runMul (cmpArgs_len form) (.inl ⟨sgn, form, rfl⟩) h
  | mul16 b c => exact .of_runMul rfl (.inr ⟨b, c, rfl⟩) h
  | load kind form =>
    exact .of_runLoad (ldArgs_len _ form) (Shape.mem_destRegs_of_dests form.dest_mem_dests)
      (fun r base off w hr hw => Shape.mem_destRegs_of_dests (LdForm.writtenBase_mem_dests hr hw)) h
  | load16 form =>
    exact .of_runLoad form.args_len (Shape.mem_destRegs_of_dests form.dest_mem_dests)
      (fun r base off w hr _ => Shape.mem_destRegs_of_dests (Ld16.written_mem_dests hr)) h
  | store sz c b d aa di limm =>
    refine .of_runStore rfl (fun r base off w hr hw => Shape.mem_destRegs_of_dests ?_) h
    obtain rfl := Option.some.inj hr
    exact List.mem_singleton.2 (writtenBase_of_effAddr hw b).symm
  | store16 form =>
    exact .of_runStore form.args_len (fun r base off w hr _ => Shape.mem_destRegs_of_dests (St16.written_mem_dests hr)) h
  | jump | jumpD | bcc | bfar | blcc | bl | br | ctl16 => exact .of_branch rfl h
  | jumpF form => exact .of_runReturn h
  | lp form => exact .of_runLp h
  | flag form => exact .of_runFlag (jArgs_len form) h
  | lr form =>
    exact .of_runLr (lrArgs_len form) (fun r hr => Shape.mem_destRegs_of_dests
      (List.mem_singleton.2 (hr.symm.trans (lrArgs_dest form)))) h
  | sr form => exact .of_runSr (srArgs_len form) ⟨form, rfl⟩ h
  | nop | nop16 => exact .of_runNop rfl h
  | sleep => exact .of_runSleep h
  | swi => exact .of_runSwi h
  | brk => exact .of_runBreak rfl h

/-- What an instruction can do. -/
theorem exec_outcome {i : Instr} {s t : State} (h : exec i s = .next t) : i.shape.Outcome s t :=
  Shape.run_outcome (exec_eq_run i s ▸ h)

end Sys2Proof
end

section
/-! Every step keeps a legal state legal. -/

namespace Sys2Proof

open Machine

theorem Shape.Outcome.inv {v : Shape} {s t : State} (h : v.Outcome s t) (hs : s.Inv) : t.Inv := by
  cases h with
  | excepts _ ret => exact hs.enter .two _ ret
  | breaks => exact { hs with }
  | ends he _ hi => exact hs.ended (hi hs) _ he

/-- Settles O53: an entry keeps `State.Inv` by `State.Inv.enter`, an instruction by `Shape.Outcome.inv`. -/
theorem invariantKept : Obligations.InvariantKept := by
  intro s t hs h
  obtain ⟨-, rfl⟩ | ⟨-, line, -, -, rfl⟩ | ⟨-, -, -, rfl⟩ | ⟨-, -, -, rfl | ⟨-, rfl⟩ | ⟨i, -, hi⟩⟩ := step_next h
  · exact hs
  · have hwoken : ({ s with zz := false } : State).Inv := { hs with }
    exact hwoken.enter line.level line.vector s.pc
  · exact hs
  · exact hs.enter .two 1 s.pc
  · exact hs.enter .two 2 _
  · exact (exec_outcome hi).inv hs

end Sys2Proof
end

section
/-! The frames of an instruction: the special registers, the core registers, halt and the enables. -/

namespace Sys2Proof

open Machine

theorem Instr.eq_of_shape_eq {i j : Instr} (h : i.shape = j.shape) : i = j := by
  rw [← Instr.ofShape_shape i, h, Instr.ofShape_shape]

namespace Machine

theorem vectorAddr_of_exception (s : State) {vec : Nat} (h : vec = 1 ∨ vec = 2) :
    s.vectorAddr vec = s.intVectorBase + 8#32 ∨ s.vectorAddr vec = s.intVectorBase + 16#32 := by
  obtain rfl | rfl := h
  · exact .inl rfl
  · exact .inr rfl

theorem atLoopEnd_len_eq_false {s : State} {i : Instr} (h : s.pc + BitVec.ofNat 32 i.length ≠ s.lpEnd) :
    s.atLoopEnd i.shape.len = false := by
  rw [State.atLoopEnd, State.npc, Shape.bytes_len]
  exact beq_false_of_ne h

/-- Away from the end of a loop LP_COUNT is what the own effects leave in it (43_branch_jump_loop.md R425, R427). -/
theorem ended_lpCount_of_not_last {s : State} {l : Len} {e : Ending} (u : State) (hf : e.lpCountFree = false)
    (hl : s.atLoopEnd l = false) : (s.ended l e u).lpCount = u.lpCount := by
  rw [ended_lpCount, State.nextLpCount, hf, hl, cond_false, cond_false]

theorem reg_enter_two_of_ne (s : State) (vec : Nat) (ret : Word) {n : Nat} (h : n ≠ 30) :
    (s.enter .two vec ret).reg n = s.reg n :=
  reg_setReg_of_ne s ret h.symm

end Machine

/-- Settles O58: an exception writes ILINK2 alone, and own effects leave what the format does not name. -/
theorem coreRegisterFrame : Obligations.CoreRegisterFrame := by
  intro i s t n h hn hne
  cases exec_outcome h with
  | excepts hvec ret =>
    have h30 : n = 30 := of_not_not fun hn30 => hne (reg_enter_two_of_ne s _ ret hn30)
    exact ⟨h30, vectorAddr_of_exception s hvec, rfl, rfl, rfl⟩
  | breaks => exact absurd rfl hne
  | ends _ hu => exact absurd (hu.regs n hn) hne

/-- Settles O60: an exception clears both enables, BRK_S halts, and own effects change either only by FLAG and J.F. -/
theorem haltAndEnables : Obligations.HaltAndEnables := by
  intro i s t h
  cases exec_outcome h with
  | excepts hvec ret =>
    refine ⟨fun hh => hh, fun h0 h1 => ?_, ?_, fun _ _ _ => ⟨rfl, rfl, vectorAddr_of_exception s hvec⟩⟩
    · cases h0.symm.trans h1
    · rintro (⟨-, ⟨⟩⟩ | ⟨-, ⟨⟩⟩)
  | breaks hv =>
    refine ⟨fun _ => rfl, fun _ _ => .inr (Instr.eq_of_shape_eq hv), ?_, fun _ _ hne => ?_⟩
    · rintro (⟨h0, h1⟩ | ⟨h0, h1⟩) <;> cases h0.symm.trans h1
    · obtain hne | hne := hne <;> exact absurd rfl hne
  | ends _ hu =>
    refine ⟨fun h1 => ?_, fun h0 h1 => ?_, fun hup => hu.enables (hup.imp ?_ ?_), fun hflag hret hne => ?_⟩
    · obtain hsame | ⟨-, hset⟩ := hu.halt
      · exact hsame.trans h1
      · exact hset
    · obtain hsame | ⟨hflag, -⟩ := hu.halt
      · cases (hsame.trans h0).symm.trans h1
      · exact .inl hflag
    · exact fun ⟨h0, h1⟩ hsame => by cases (hsame.trans h0).symm.trans h1
    · exact fun ⟨h0, h1⟩ hsame => by cases (hsame.trans h0).symm.trans h1
    · obtain ⟨form, hv⟩ | ⟨form, hv⟩ := hu.enables hne
      · exact absurd hv (hflag form)
      · exact absurd hv (hret form)

/-- Settles O56: the three clauses are read off `Shape.Leaves`; away from the end of a loop LP_COUNT is what the own effects
leave in it, and only branches and jumps can make it unpredictable. -/
theorem specialRegisterFrame : Obligations.SpecialRegisterFrame := by
  refine ⟨fun i s t h => ?_, fun i s t h => ?_, fun i s t h hend hdest hkind => ?_⟩
  · cases exec_outcome h with
    | excepts _ ret => exact ⟨rfl, rfl, rfl, rfl, .inl rfl⟩
    | breaks hv => exact ⟨rfl, rfl, rfl, rfl, .inr (Instr.eq_of_shape_eq hv)⟩
    | ends _ hu => exact ⟨hu.cfg, hu.semHost, hu.pending, hu.singleStep, .inl rfl⟩
  · cases exec_outcome h with
    | excepts _ ret =>
      exact ⟨absurd rfl, absurd rfl, absurd rfl, .inr rfl, absurd rfl, absurd rfl, fun _ => .inr ⟨rfl, rfl, rfl⟩,
        absurd rfl, absurd rfl, absurd rfl, absurd rfl⟩
    | breaks hv =>
      exact ⟨absurd rfl, absurd rfl, absurd rfl, .inr rfl, absurd rfl, absurd rfl, absurd rfl, absurd rfl,
        absurd rfl, fun _ => Instr.eq_of_shape_eq hv, absurd rfl⟩
    | ends _ hu =>
      exact ⟨hu.lpStart, hu.lpEnd, hu.intVectorBase, hu.auxExt, hu.statusL1, hu.semCpu, fun hne => .inl (hu.statusL2 hne),
        hu.mulres, hu.sh, absurd hu.bh, fun hne => Instr.eq_of_shape_eq (hu.zz hne)⟩
  · cases exec_outcome h with
    | excepts => rfl
    | breaks => rfl
    | @ends e u he hu =>
      have hfree : e.lpCountFree = false := by
        refine Bool.eq_false_iff.2 fun hf => ?_
        obtain hb | ⟨form, hv⟩ := he.lpCountFree hf
        · cases hv : i.shape with
          | jump | jumpD | bcc | bfar | blcc | bl | br | ctl16 => rw [hv] at hkind; exact hkind
          | _ => rw [hv] at hb; cases hb
        · rw [hv] at hkind
          exact hkind
      exact (ended_lpCount_of_not_last u hfree (atLoopEnd_len_eq_false hend)).trans (hu.lpCount hdest)

end Sys2Proof
end

section
/-! The frame of the flags: which operations leave C and V as they were. -/

namespace Sys2Proof

open Machine

namespace Machine

/-- Logical and single-bit operations leave C and V (41_logic_move_bit.md R280). -/
theorem aluEval_keeps_c_v : ∀ op ∈ [AluOp.and, .or, .bic, .xor, .bset, .bclr, .bxor, .bmsk], ∀ (f : Flags) (a b : Word),
    (aluEval op f a b).2.c = f.c ∧ (aluEval op f a b).2.v = f.v := by
  simp [aluEval, znOf]

/-- Multi-bit shifts leave V (42_shift_rotate.md R340 to R343). -/
theorem aluEval_keeps_v : ∀ op ∈ [AluOp.asl, .lsr, .asr, .ror], ∀ (f : Flags) (a b : Word),
    (aluEval op f a b).2.v = f.v := by
  simp [aluEval, aslFlags, lsrFlags, asrFlags, rorFlags, zncOf]

/-- Tests of bits leave C and V (41_logic_move_bit.md R286, R302). -/
theorem testEval_keeps_c_v {op : TestOp} (h : op = .tst ∨ op = .btst) (f : Flags) (a b : Word) :
    (testEval op f a b).c = f.c ∧ (testEval op f a b).v = f.v := by
  obtain rfl | rfl := h <;> exact ⟨rfl, rfl⟩

/-- Extensions, NOT, SWAP and the normalizations leave C and V (46_extensions.md R545 to R547). -/
theorem sopEval_keeps_c_v : ∀ op ∈ [SopOp.sexb, .sexw, .extb, .extw, .not, .swap, .norm, .normw],
    ∀ (f : Flags) (fv : Bool) (a : Word), (sopEval op f fv a).2.c = f.c ∧ (sopEval op f fv a).2.v = f.v := by
  simp [sopEval, znOf, normFlags, normwFlags]

/-- Shifts by one to the right leave V (42_shift_rotate.md R332 to R335). -/
theorem sopEval_keeps_v : ∀ op ∈ [SopOp.asr, .lsr, .ror, .rrc], ∀ (f : Flags) (fv : Bool) (a : Word),
    (sopEval op f fv a).2.v = f.v := by
  simp [sopEval, zncOf]

/-- A property `g` of the flags that the operation does not change is not changed by the instruction. -/
theorem runData_keeps {α : Type} {g : Flags → α} {op : DataOp} {x : DataArgs} {s t : State}
    (hg : ∀ fv a b, g (dataEval op s.flags fv a b).2 = g s.flags) (h : runData op x s = .next t) : g t.flags = g s.flags := by
  obtain ⟨-, -, -, -, rfl⟩ | ⟨-, rfl⟩ | ⟨-, a, b, -, -, rfl⟩ := runData_next h
  · rfl
  · rfl
  · rw [ended_flags]
    split
    · exact hg _ a b
    · rfl

theorem runData_keeps_c_v {op : DataOp} {x : DataArgs} {s t : State}
    (hop : ∀ fv a b, (dataEval op s.flags fv a b).2.c = s.flags.c ∧ (dataEval op s.flags fv a b).2.v = s.flags.v)
    (h : runData op x s = .next t) : t.flags.c = s.flags.c ∧ t.flags.v = s.flags.v :=
  ⟨runData_keeps (fun fv a b => (hop fv a b).1) h, runData_keeps (fun fv a b => (hop fv a b).2) h⟩

end Machine

theorem Shape.Outcome.flags_eq {v : Shape} {s t : State} (h : v.Outcome s t) (hv : v.setsFlags = false) :
    t.flags = s.flags := by
  cases h with
  | excepts => rfl
  | breaks => rfl
  | ends _ hu => exact of_not_not fun hne => Bool.false_ne_true (hv.symm.trans (hu.flags hne))

/-- Settles O59: the first clause is the frame of every instruction, the other two are about what the operation computes. -/
theorem flagFrame : Obligations.FlagFrame := by
  refine ⟨fun i s t h => (exec_outcome h).flags_eq, fun i s t h hkind => ?_, fun i s t h hkind => ?_⟩
  · rw [exec_eq_run] at h
    generalize i.shape = v at h hkind
    cases v with
    | alu op form => exact runData_keeps_c_v (op := .alu op) (fun _ => aluEval_keeps_c_v op hkind s.flags) h
    | test op form => exact runData_keeps_c_v (op := .test op) (fun _ => testEval_keeps_c_v hkind s.flags) h
    | mov form => exact runData_keeps_c_v (op := .mov) (fun _ _ _ => ⟨rfl, rfl⟩) h
    | sop op form => exact runData_keeps_c_v (op := .sop op) (fun fv _ => sopEval_keeps_c_v op hkind s.flags fv) h
    | data16 form =>
      cases form with
      | tst | btst => exact runData_keeps_c_v (op := .test _) (fun _ _ _ => ⟨rfl, rfl⟩) h
      | _ => exact hkind.elim
    | _ => exact hkind.elim
  · rw [exec_eq_run] at h
    generalize i.shape = v at h hkind
    cases v with
    | alu op form => exact runData_keeps (g := Flags.v) (op := .alu op) (fun _ => aluEval_keeps_v op hkind s.flags) h
    | sop op form => exact runData_keeps (g := Flags.v) (op := .sop op) (fun fv _ => sopEval_keeps_v op hkind s.flags fv) h
    | _ => exact hkind.elim

end Sys2Proof
end

section
/-! The condition codes, and what they mean after a comparison. -/

namespace Sys2Proof.Machine

/-- Settles O18: each code is one row of the table. -/
theorem conditionCodes : Obligations.ConditionCodes := by
  intro cfg f
  exact ⟨rfl, rfl, rfl, rfl, rfl, rfl, rfl, rfl, rfl, rfl, rfl, rfl, rfl, rfl, rfl, rfl⟩

/-- Settles O19: the search for a test of the code finds none. -/
theorem extensionConditions : Obligations.ExtensionConditions := by
  intro cfg q f hq hnone
  have hbase : decide (q.toNat < 16) = false := decide_eq_false (Nat.not_lt.2 hq)
  have hfind : cfg.extCond.find? (fun x => x.1 == q) = none :=
    List.find?_eq_none.2 fun x hx => ne_true_of_eq_false (beq_false_of_ne (hnone x hx))
  simp only [condHolds, hbase, hfind, cond_false]

/-! ### The flags of a comparison -/

theorem testEval_cmp_z (f : Flags) (a b : Word) : (testEval .cmp f a b).z = true ↔ a = b := by
  simp [testEval, subFlags, isZero, BitVec.sub_eq_iff_eq_add]

theorem testEval_cmp_c (f : Flags) (a b : Word) : (testEval .cmp f a b).c = true ↔ a.toNat < b.toNat := by
  simp [testEval, subFlags, borrowSub]

theorem testEval_cmp_n (f : Flags) (a b : Word) : (testEval .cmp f a b).n = (a - b).msb := by
  simp [testEval, subFlags, isNeg]

theorem testEval_cmp_v (f : Flags) (a b : Word) : (testEval .cmp f a b).v = ovfSub a b (a - b) := by
  simp [testEval, subFlags]

/-- The signed order is where the sign of the difference and its overflow differ. -/
theorem testEval_cmp_n_ne_v (f : Flags) (a b : Word) :
    ¬ (testEval .cmp f a b).n = (testEval .cmp f a b).v ↔ a.toInt < b.toInt := by
  have hdiff : (a - b).toNat = (2 ^ 32 - b.toNat + a.toNat) % 2 ^ 32 := BitVec.toNat_sub a b
  have hmsb (x : Word) : x.msb = decide (2 ^ 31 ≤ x.toNat) := BitVec.msb_eq_decide x
  have hint (x : Word) : x.toInt = if x.msb = true then (x.toNat : Int) - (2 ^ 32 : Nat) else x.toNat :=
    BitVec.toInt_eq_msb_cond x
  rw [testEval_cmp_n, testEval_cmp_v, hint a, hint b, ovfSub, Bool.eq_iff_iff]
  simp only [hmsb, Bool.or_eq_true, Bool.and_eq_true, Bool.not_eq_true', decide_eq_true_eq,
    decide_eq_false_iff_not]
  split <;> split <;> omega

/-- Settles O17: every code reads Z, C, or whether N and V differ, which are equality and the two orders. -/
theorem compareConditions : Obligations.CompareConditions := by
  intro cfg f a b cc
  obtain ⟨-, hEq, hNe, -, -, hLo, hHs, -, -, hGt, hGe, hLt, hLe, hHi, hLs, -⟩ := conditionCodes cfg (testEval .cmp f a b)
  have hz := testEval_cmp_z f a b
  have hc := testEval_cmp_c f a b
  have hnv := testEval_cmp_n_ne_v f a b
  have hgtInt : b.toInt < a.toInt ↔ ¬ a.toInt < b.toInt ∧ ¬ a = b := by rw [← BitVec.toInt_inj]; omega
  have hleInt : a.toInt ≤ b.toInt ↔ a.toInt < b.toInt ∨ a = b := by rw [← BitVec.toInt_inj]; omega
  have hgtNat : b.toNat < a.toNat ↔ ¬ a.toNat < b.toNat ∧ ¬ a = b := by rw [← BitVec.toNat_inj]; omega
  have hleNat : a.toNat ≤ b.toNat ↔ a.toNat < b.toNat ∨ a = b := by rw [← BitVec.toNat_inj]; omega
  simp only [cc, hEq, hNe, hLo, hHs, hGt, hGe, hLt, hLe, hHi, hLs, hgtInt, hleInt, hgtNat, hleNat,
    ← Int.not_lt, ← Nat.not_lt, ne_eq, ← hz, ← hc, ← hnv]
  generalize testEval .cmp f a b = r
  obtain ⟨z, n, c, v⟩ := r
  revert z n c v
  decide

end Sys2Proof.Machine
end

section
/-! The semaphore register, bit by bit, on both sides. -/

namespace Sys2Proof.Machine

/-- The mask holds exactly the implemented bits (10_state.md R43). -/
theorem getLsbD_semMask (cfg : Config) {i : Nat} (hi : i < 32) : (semMask cfg).getLsbD i = decide (i < cfg.semaphoreBits) := by
  rw [semMask, BitVec.getLsbD_ofNat, Nat.testBit_two_pow_sub_one, decide_eq_true hi, Bool.true_and]

/-- What a side's write leaves it: the implemented bits it claims and the other side does not own. -/
theorem getLsbD_claim (cfg : Config) (v other : Word) {i : Nat} (hb : i < cfg.semaphoreBits) (hi : i < 32) :
    (v &&& ~~~other &&& semMask cfg).getLsbD i = (v.getLsbD i && !other.getLsbD i) := by
  rw [BitVec.getLsbD_and, BitVec.getLsbD_and, BitVec.getLsbD_not, getLsbD_semMask cfg hi]
  simp [hi, hb]

/-- A side reads the implemented bits as it owns them. -/
theorem getLsbD_freeUnder_semMask (cfg : Config) (own f : Word) {i : Nat} (hb : i < cfg.semaphoreBits) (hi : i < 32) :
    (freeUnder (~~~(semMask cfg)) own f).getLsbD i = own.getLsbD i := by
  have hm : (semMask cfg).getLsbD i = true := (getLsbD_semMask cfg hi).trans (decide_eq_true hb)
  rw [freeUnder, BitVec.getLsbD_or, BitVec.getLsbD_and, BitVec.getLsbD_and, BitVec.getLsbD_not, BitVec.getLsbD_not, hm]
  simp [hi]

/-- Settles O49: the two sides mirror each other, with one rule for a write and one for a read. -/
theorem semaphoreProtocol : Obligations.SemaphoreProtocol := by
  intro s v f i hb hi
  exact ⟨getLsbD_claim s.cfg v s.semHost hb hi, rfl, getLsbD_freeUnder_semMask s.cfg s.semCpu _ hb hi,
    getLsbD_claim s.cfg v s.semCpu hb hi, rfl, getLsbD_freeUnder_semMask s.cfg s.semHost f hb hi, rfl, rfl⟩

end Sys2Proof.Machine
end

section
/-! Reading and writing the core registers by their number. -/

namespace Sys2Proof.Machine

/-- The low word of a shifted number is the number divided. -/
theorem extractLsb'_eq_ofNat_div (x : BitVec 64) (k : Nat) : x.extractLsb' k 32 = BitVec.ofNat 32 (x.toNat / 2 ^ k) := by
  apply BitVec.eq_of_toNat_eq
  simp [Nat.shiftRight_eq_div_pow]

theorem readCore_of_lt_32 (s : State) (l : Len) (slot : Nat) {r : Reg} (limm : Word) (h : r.toNat < 32) :
    s.readCore l slot r limm = .ok (s.reg r.toNat) := by
  simp [State.readCore, h]

/-- An extension core register reads as stored when it exists, else as a free value (10_state.md R30). -/
theorem readCore_ext (s : State) (l : Len) (slot : Nat) {r : Reg} (limm : Word) (h32 : 32 ≤ r.toNat) (h57 : r.toNat < 57) :
    s.readCore l slot r limm = .ok (bif isExtCore s.cfg r then s.reg r.toNat else s.free slot) := by
  have hlow : ¬ r.toNat < 32 := Nat.not_lt.2 h32
  have hne (k : Reg) (hk : 57 ≤ k.toNat) : ¬ r = k := by rintro rfl; omega
  have hmul : isMulReg s.cfg r = false := by
    simp [isMulReg, hne 57#6 (by decide), hne 58#6 (by decide), hne 59#6 (by decide)]
  have h60 : r.toNat < 60 := by omega
  simp [State.readCore, hlow, hmul, h60]

theorem isExtCore_iff_of_lt {cfg : Config} {r : Reg} (h57 : r.toNat < 57) : isExtCore cfg r = true ↔ r ∈ cfg.extCore := by
  simp [isExtCore, h57]

/-- A register below r60 is read without exception (10_state.md R30). -/
theorem exists_readCore_of_lt_60 (s : State) (l : Len) (slot : Nat) {r : Reg} (limm : Word) (h : r.toNat < 60) :
    ∃ v, s.readCore l slot r limm = .ok v := by
  simp only [State.readCore, cond_eq_ite, h, decide_true, if_true]
  split
  · exact ⟨_, rfl⟩
  · split <;> exact ⟨_, rfl⟩

theorem readCore_60 (s : State) (l : Len) (slot : Nat) (limm : Word) (ha : s.lpcAge ≠ 0) (he : s.npc l ≠ s.lpEnd) :
    s.readCore l slot 60#6 limm = .ok s.lpCount := by
  have hready : (s.lpcAge == 0 || s.npc l == s.lpEnd) = false := by simp [ha, he]
  simp [State.readCore, isMulReg, hready]

theorem readCore_mul {s : State} (l : Len) (slot : Nat) (limm : Word) (h : s.cfg.hasMul64 = true) :
    s.readCore l slot 57#6 limm = .ok (s.mulres.extractLsb' 0 32) ∧
    s.readCore l slot 58#6 limm = .ok (s.mulres.extractLsb' 16 32) ∧
    s.readCore l slot 59#6 limm = .ok (s.mulres.extractLsb' 32 32) := by
  simp [State.readCore, isMulReg, h]

theorem readCore_61 (s : State) (l : Len) (slot : Nat) (limm : Word) :
    s.readCore l slot 61#6 limm = .error .reservedRegister := by
  simp [State.readCore, isMulReg]

theorem readCore_62 (s : State) (l : Len) (slot : Nat) (limm : Word) : s.readCore l slot 62#6 limm = .ok limm := by
  simp [State.readCore, isMulReg]

theorem readCore_63 (s : State) (l : Len) (slot : Nat) (limm : Word) : s.readCore l slot 63#6 limm = .ok s.pcl := by
  simp [State.readCore, isMulReg]

theorem writeCore_of_lt_32 (s : State) {r : Reg} (v : Word) (h : r.toNat < 32) : s.writeCore r v = s.setReg r.toNat v := by
  simp [State.writeCore, h]

theorem writeCore_ext (s : State) {r : Reg} (v : Word) (h32 : 32 ≤ r.toNat) (h60 : r.toNat < 60) :
    s.writeCore r v = bif isExtCore s.cfg r then s.setReg r.toNat v else s := by
  simp [State.writeCore, Nat.not_lt.2 h32, h60]

theorem writeCore_of_gt_60 (s : State) {r : Reg} (v : Word) (h : 60 < r.toNat) : s.writeCore r v = s := by
  have h60 : (r == 60#6) = false := beq_false_of_ne (by rintro rfl; exact absurd h (by decide))
  have hlow : ¬ r.toNat < 32 := by omega
  have hmid : ¬ r.toNat < 60 := by omega
  simp [State.writeCore, hlow, hmid, h60]

theorem reg_setReg_same (s : State) {n : Nat} (v : Word) (h : n < 57) : (s.setReg n v).reg n = v := by
  simp [State.reg, h]

/-- Settles O24: each clause is one range of register numbers. -/
theorem coreRegisterAccess : Obligations.CoreRegisterAccess := by
  refine ⟨fun s l slot r limm => ⟨readCore_of_lt_32 s l slot limm, fun hm => ?mul, fun h32 h57 hex => ?ext,
    fun _ h60 => exists_readCore_of_lt_60 s l slot limm h60, readCore_60 s l slot limm, readCore_61 s l slot limm,
    readCore_62 s l slot limm, readCore_63 s l slot limm⟩,
    fun s r v => ⟨fun h => ⟨writeCore_of_lt_32 s v h, ?written, fun n hn => reg_writeCore_of_ne s v hn.symm⟩, rfl,
      fun h32 h57 hex => ?extWritten, fun h32 h57 hex => ?extAbsent, fun h57 h60 => ?mulReadOnly, writeCore_of_gt_60 s v⟩⟩
  case mul =>
    obtain ⟨hlo, hmid, hhi⟩ := readCore_mul l slot limm hm
    rw [hlo, hmid, hhi]
    simp only [extractLsb'_eq_ofNat_div, pow_zero, Nat.div_one, and_self]
  case ext => rw [readCore_ext s l slot limm h32 h57, (isExtCore_iff_of_lt h57).2 hex, cond_true]
  case written => rw [writeCore_of_lt_32 s v h, reg_setReg_same s v (by omega)]
  case extWritten =>
    rw [writeCore_ext s v h32 (by omega), (isExtCore_iff_of_lt h57).2 hex]
    rfl
  case extAbsent =>
    have hno : isExtCore s.cfg r = false := Bool.eq_false_iff.2 fun hyes => hex ((isExtCore_iff_of_lt h57).1 hyes)
    rw [writeCore_ext s v h32 (by omega), hno, cond_false]
  case mulReadOnly =>
    have hno : isExtCore s.cfg r = false := by simp [isExtCore, Nat.not_lt.2 h57]
    rw [writeCore_ext s v (by omega) h60, hno, cond_false]

end Sys2Proof.Machine
end

section
/-! What reset leaves. -/

namespace Sys2Proof.Machine

/-- A core without requests takes no interrupt (60_exceptions.md R585). -/
theorem interrupt_eq_none_of_no_request {s : State} (h : s.pending = []) : s.interrupt = none := by
  have hline : ∀ line, s.lineTakeable line = false := fun line => by simp [State.lineTakeable, h]
  have hfind (p : IrqLine → Bool) : (s.cfg.irqLines.find? fun x => p x && s.lineTakeable x) = none :=
    List.find?_eq_none.2 fun line _ => by simp [hline]
  have htake : s.takeable = none := by simp only [State.takeable, hfind]
  rw [State.interrupt, htake]
  cases s.heldOff <;> rfl

/-- A running core that sleeps not and has no request executes the instruction at its pc. -/
theorem step_eq_execAtPc {s : State} (hh : s.h = false) (hz : s.zz = false) (hp : s.pending = []) : step s = s.execAtPc := by
  simp only [step, hh, hz, interrupt_eq_none_of_no_request hp, cond_false]

/-- STATUS32 reads 0 with no flag set, no level enabled and the core not halted (10_state.md R34). -/
theorem status32_eq_zero {s : State} (hf : s.flags = ⟨false, false, false, false⟩) (he1 : s.e1 = false) (he2 : s.e2 = false)
    (hh : s.h = false) : s.status32 = 0#32 := by
  rw [State.status32, hf, he1, he2, hh]
  rfl

/-- DEBUG.LD reads 0 until a load has executed (70_reset_and_hazards.md R640). -/
theorem getLsbD_debug_31 {s : State} (h : s.loadSeen = false) (f : Word) : (s.debug f).getLsbD 31 = false := by
  rw [State.debug, h]
  simp only [BitVec.getLsbD_append]
  simp

theorem hardReset_mem (s : State) : s.hardReset.mem = s.mem := by simp only [State.hardReset]

theorem hardReset_cfg (s : State) : s.hardReset.cfg = s.cfg := by simp only [State.hardReset, State.resetWith]

theorem hardReset_pending (s : State) : s.hardReset.pending = s.pending := by simp only [State.hardReset]

/-- The hard reset of a running system leaves a legal state: what it initialises is as after `State.resetWith`. -/
theorem inv_hardReset {s : State} (hm : s.mem.wf = true) (hc : s.cfg.wf = true) : s.hardReset.Inv where
  mem := by rw [hardReset_mem, hm]
  pc := (inv_resetWith hc).pc
  lpStart := (inv_resetWith hc).lpStart
  lpEnd := (inv_resetWith hc).lpEnd
  target := (inv_resetWith hc).target
  vectorBase := (inv_resetWith hc).vectorBase
  statusL1 := and_and_not_self (Config.freeWord s.draw 96) statusLMask
  statusL2 := and_and_not_self (Config.freeWord s.draw 97) statusLMask
  owners := (inv_resetWith hc).owners
  semCpu := (inv_resetWith hc).semCpu
  semHost := (inv_resetWith hc).semHost
  haltShadow := (inv_resetWith hc).haltShadow
  lpcAge := (inv_resetWith hc).lpcAge
  lpseAge := (inv_resetWith hc).lpseAge
  cfg := by rw [hardReset_cfg, hc]
  auxExt := by simp [State.hardReset, State.resetWith]

/-- Settles O55: the values of reset are read off `State.resetWith` and `State.hardReset`; the step needs that nothing
requests, and DEBUG.LD that no load has executed. -/
theorem resetValues : Obligations.ResetValues :=
  ⟨fun _ => ⟨rfl, rfl, status32_eq_zero rfl rfl rfl rfl, rfl, rfl, rfl, rfl, rfl, getLsbD_debug_31 rfl _, rfl, rfl,
    step_eq_execAtPc rfl rfl rfl⟩,
    fun s => ⟨hardReset_mem s, hardReset_cfg s, hardReset_pending s, rfl, rfl, status32_eq_zero rfl rfl rfl rfl, rfl, rfl, rfl,
      rfl, rfl, rfl, inv_hardReset⟩⟩

end Sys2Proof.Machine
end

section
/-! Data in memory as its bytes: a datum read is the little-endian sum of its bytes (20_memory.md R91), and a store is the
writes of its bytes one after another (R92), `State.writeBytes`. -/

namespace Sys2Proof.Machine

theorem toNat_append_eq_add {n w : Nat} (x : BitVec n) (y : BitVec w) : (x ++ y).toNat = y.toNat + 2 ^ w * x.toNat := by
  rw [BitVec.toNat_append, ← Nat.shiftLeft_add_eq_or_of_lt y.isLt, Nat.shiftLeft_eq, Nat.mul_comm, Nat.add_comm]

/-- The bits of a vector from a place on, as its number divided. -/
theorem extractLsb'_eq_ofNat_toNat_div {n : Nat} (x : BitVec n) (start w : Nat) :
    x.extractLsb' start w = BitVec.ofNat w (x.toNat / 2 ^ start) := by
  rw [BitVec.extractLsb', Nat.shiftRight_eq_div_pow]

/-- The low `n` bytes of a number make up its low part. -/
theorem sum_bytes_eq_mod (v n : Nat) : ∑ k ∈ Finset.range n, 2 ^ (8 * k) * (v / 2 ^ (8 * k) % 2 ^ 8) = v % 2 ^ (8 * n) := by
  induction n with
  | zero => simp [Nat.mod_one]
  | succ n ih => rw [Finset.sum_range_succ, ih, Nat.mul_succ, pow_add, Nat.mod_mul]

/-! ### Reading -/

theorem toNat_readData (s : State) (sz : Size) (a : Word) :
    (s.readData sz a).toNat = ∑ k ∈ Finset.range (sizeBytes sz), 2 ^ (8 * k) * (s.readByte (a + BitVec.ofNat 32 k)).toNat := by
  have hlt (x : Word) : (s.readByte x).toNat < 2 ^ 8 := (s.readByte x).isLt
  cases sz <;> simp only [State.readData, sizeBytes, Finset.sum_range_succ, Finset.sum_range_zero, toNat_append_eq_add,
    BitVec.toNat_setWidth, BitVec.ofNat_eq_ofNat, BitVec.add_zero]
  case byte =>
    have hlt0 := hlt a
    omega
  case half =>
    have hlt0 := hlt a
    have hlt1 := hlt (a + 1#32)
    omega
  case long => omega

/-- A datum is read from its own bytes alone (20_memory.md R91). -/
theorem readData_congr {s t : State} {sz : Size} {a : Word}
    (h : ∀ k, k < sizeBytes sz → t.readByte (a + BitVec.ofNat 32 k) = s.readByte (a + BitVec.ofNat 32 k)) :
    t.readData sz a = s.readData sz a := by
  apply BitVec.eq_of_toNat_eq
  rw [toNat_readData, toNat_readData]
  exact Finset.sum_congr rfl fun k hk => by rw [h k (Finset.mem_range.1 hk)]

/-- A datum whose bytes are those of a value reads as the low part of the value. -/
theorem readData_of_bytes {s : State} {sz : Size} {a v : Word}
    (h : ∀ k, k < sizeBytes sz → s.readByte (a + BitVec.ofNat 32 k) = BitVec.ofNat 8 (v.toNat / 2 ^ (8 * k))) :
    s.readData sz a = BitVec.ofNat 32 (v.toNat % 2 ^ (8 * sizeBytes sz)) := by
  apply BitVec.eq_of_toNat_eq
  calc (s.readData sz a).toNat
      = ∑ k ∈ Finset.range (sizeBytes sz), 2 ^ (8 * k) * (v.toNat / 2 ^ (8 * k) % 2 ^ 8) := by
        rw [toNat_readData]
        exact Finset.sum_congr rfl fun k hk => by rw [h k (Finset.mem_range.1 hk), BitVec.toNat_ofNat]
    _ = v.toNat % 2 ^ (8 * sizeBytes sz) := sum_bytes_eq_mod _ _
    _ = (BitVec.ofNat 32 (v.toNat % 2 ^ (8 * sizeBytes sz))).toNat := by
        rw [BitVec.toNat_ofNat, Nat.mod_eq_of_lt ((Nat.mod_le _ _).trans_lt v.isLt)]

/-! ### Writing -/

/-- The low `n` bytes of a value written one after another from an address on. -/
def State.writeBytes (s : State) (a v : Word) : Nat → State
  | 0 => s
  | n + 1 => (s.writeBytes a v n).writeByte (a + BitVec.ofNat 32 n) (BitVec.ofNat 8 (v.toNat / 2 ^ (8 * n)))

theorem writeData_eq_writeBytes (s : State) (sz : Size) (a v : Word) : s.writeData sz a v = s.writeBytes a v (sizeBytes sz) := by
  cases sz <;> simp [State.writeData, sizeBytes, State.writeBytes, extractLsb'_eq_ofNat_toNat_div]

theorem wf_writeBytes {s : State} (hs : s.mem.wf = true) (a v : Word) (n : Nat) : (s.writeBytes a v n).mem.wf = true := by
  induction n with
  | zero => exact hs
  | succ n ih => exact wf_writeByte ih _ _

/-- The addresses of `n` bytes do not meet when `n` does not pass the size of the address space. -/
theorem add_ofNat_ne {k n : Nat} (hk : k < n) (hn : n < 2 ^ 32) (a : Word) :
    a + BitVec.ofNat 32 k ≠ a + BitVec.ofNat 32 n := by
  intro h
  have hnat := congrArg BitVec.toNat ((BitVec.add_right_inj a).1 h)
  simp only [BitVec.toNat_ofNat] at hnat
  omega

theorem readByte_writeBytes_of_lt {s : State} (hs : s.mem.wf = true) (a v : Word) {n k : Nat} (hn : n ≤ 2 ^ 32) (hk : k < n) :
    (s.writeBytes a v n).readByte (a + BitVec.ofNat 32 k) = BitVec.ofNat 8 (v.toNat / 2 ^ (8 * k)) := by
  induction n with
  | zero => exact absurd hk (Nat.not_lt_zero k)
  | succ n ih =>
    rw [State.writeBytes, readByte_writeByte (wf_writeBytes hs a v n)]
    obtain hlt | rfl := Nat.lt_succ_iff_lt_or_eq.1 hk
    · rw [if_neg (add_ofNat_ne hlt hn a), ih (Nat.le_of_succ_le hn) hlt]
    · exact if_pos rfl

theorem readByte_writeBytes_of_ne {s : State} (hs : s.mem.wf = true) {a x : Word} (v : Word) {n : Nat}
    (hx : ∀ k, k < n → x ≠ a + BitVec.ofNat 32 k) : (s.writeBytes a v n).readByte x = s.readByte x := by
  induction n with
  | zero => rfl
  | succ n ih =>
    rw [State.writeBytes, readByte_writeByte (wf_writeBytes hs a v n), if_neg (hx n n.lt_succ_self),
      ih fun k hk => hx k (Nat.lt_succ_of_lt hk)]

theorem sizeBytes_le (sz : Size) : sizeBytes sz ≤ 2 ^ 32 := by cases sz <;> decide

/-- The bytes a store leaves where it wrote (20_memory.md R92). -/
theorem readByte_writeData_of_lt {s : State} (hs : s.mem.wf = true) (sz : Size) (a v : Word) {k : Nat} (hk : k < sizeBytes sz) :
    (s.writeData sz a v).readByte (a + BitVec.ofNat 32 k) = BitVec.ofNat 8 (v.toNat / 2 ^ (8 * k)) := by
  rw [writeData_eq_writeBytes, readByte_writeBytes_of_lt hs a v (sizeBytes_le sz) hk]

/-- A store leaves every other byte. -/
theorem readByte_writeData_of_not_inAccess {s : State} (hs : s.mem.wf = true) {sz : Size} {a x : Word} (v : Word)
    (hx : ¬ inAccess a sz x) : (s.writeData sz a v).readByte x = s.readByte x := by
  rw [writeData_eq_writeBytes, readByte_writeBytes_of_ne hs v fun k hk hxk => hx ⟨k, hk, hxk⟩]

/-- Settles O29: what is read after a store is told byte by byte, and a datum is read from its own bytes. -/
theorem memoryReadAfterWrite : Obligations.MemoryReadAfterWrite := by
  intro s sz a v hs
  have hbytes (k : Nat) (hk : k < sizeBytes sz) := readByte_writeData_of_lt hs sz a v hk
  have hframe (x : Word) (hx : ¬ inAccess a sz x) := readByte_writeData_of_not_inAccess hs v hx
  exact ⟨wf_writeData hs sz a v, readData_of_bytes hbytes, hbytes, hframe,
    fun sz' x hdisj => readData_congr fun k hk => hframe _ (hdisj _ ⟨k, hk, rfl⟩)⟩

end Sys2Proof.Machine
end

section
/-! The fields of an instruction are those it was packed from (30_encoding.md R132, R136, R150 to R156, R170). -/

namespace Sys2Proof

/-- A one-bit field that holds a flag reads as the flag. -/
@[simp] theorem ofBool_beq_one (f : Bool) : (BitVec.ofBool f == 1#1) = f := by cases f <;> rfl

/-! ### The 32-bit layouts -/

@[simp] theorem fields_packGen (major : BitVec 5) (sub : BitVec 6) (p : BitVec 2) (f : Bool) (b c a : BitVec 6) :
    let w := packGen major sub p f b c a
    fMajor w = major ∧ fP w = p ∧ fSub w = sub ∧ fF w = f ∧ fB w = b ∧ fC w = c ∧ fA w = a := by
  simp (disch := decide) only [fMajor, fP, fSub, fF, fB, fC, fA, bitAt, packGen, BitVec.extractLsb'_append_eq_of_le,
    BitVec.extractLsb'_append_eq_of_add_le, Nat.reduceSub, BitVec.extractLsb'_eq_self,
    BitVec.extractLsb'_append_extractLsb'_eq_extractLsb', ofBool_beq_one, and_self]

@[simp] theorem fields_packS12 (major : BitVec 5) (sub : BitVec 6) (f : Bool) (b : Reg) (s : BitVec 12) :
    let w := packS12 major sub f b s
    fMajor w = major ∧ fP w = 2#2 ∧ fSub w = sub ∧ fF w = f ∧ fB w = b ∧ fS12 w = s := by
  have hs12 (w : Word) : fS12 w = fA w ++ fC w := rfl
  simp only [hs12, packS12, fields_packGen, BitVec.extractLsb'_append_extractLsb', and_self]

@[simp] theorem fields_packCc (major : BitVec 5) (sub : BitVec 6) (f : Bool) (b c : BitVec 6) (imm : Bool) (q : BitVec 5) :
    let w := packCc major sub f b c imm q
    fMajor w = major ∧ fP w = 3#2 ∧ fSub w = sub ∧ fF w = f ∧ fB w = b ∧ fC w = c ∧ bitAt w 5 = imm ∧ fQ w = q := by
  have hlow (x : BitVec 6) : fQ (packGen major sub 3#2 f b c x) = x.extractLsb' 0 5 ∧
      bitAt (packGen major sub 3#2 f b c x) 5 = bitAt x 5 := by
    simp (disch := decide) only [fQ, bitAt, packGen, BitVec.extractLsb'_append_eq_of_add_le, and_self]
  have hbit : (BitVec.ofBool imm ++ q).extractLsb' 0 5 = q ∧ bitAt (BitVec.ofBool imm ++ q) 5 = imm := by
    simp (disch := decide) only [bitAt, BitVec.extractLsb'_append_eq_of_le, BitVec.extractLsb'_append_eq_of_add_le,
      Nat.reduceSub, BitVec.extractLsb'_eq_self, ofBool_beq_one, and_self]
  simp only [packCc, fields_packGen, hlow, hbit, and_self]

@[simp] theorem fields_encodeLd_s9 (kind : LdKind) (a b : Reg) (s : BitVec 9) (aa : BitVec 2) (di : Bool) (limm : Word) :
    let w := encodeLd kind (.s9 a b s aa di limm)
    fMajor w = 2#5 ∧ fA w = a ∧ fB w = b ∧ fS9 w = s ∧ w.extractLsb' 9 2 = aa ∧ bitAt w 11 = di ∧
      w.extractLsb' 7 2 = kind.code.1 ∧ bitAt w 6 = kind.code.2 := by
  simp (disch := decide) only [fMajor, fA, fB, fS9, bitAt, encodeLd, BitVec.extractLsb'_append_eq_of_le,
    BitVec.extractLsb'_append_eq_of_add_le, Nat.reduceSub, BitVec.extractLsb'_eq_self,
    BitVec.extractLsb'_append_extractLsb'_eq_extractLsb', ofBool_beq_one, and_self]

@[simp] theorem fields_encodeSt (sz : Size) (c b : Reg) (s : BitVec 9) (aa : BitVec 2) (di : Bool) :
    let w := encodeSt sz c b s aa di
    fMajor w = 3#5 ∧ fC w = c ∧ fB w = b ∧ fS9 w = s ∧ w.extractLsb' 3 2 = aa ∧ bitAt w 5 = di ∧
      w.extractLsb' 1 2 = sz.code := by
  simp (disch := decide) only [fMajor, fC, fB, fS9, bitAt, encodeSt, BitVec.extractLsb'_append_eq_of_le,
    BitVec.extractLsb'_append_eq_of_add_le, Nat.reduceSub, BitVec.extractLsb'_eq_self,
    BitVec.extractLsb'_append_extractLsb'_eq_extractLsb', ofBool_beq_one, and_self]

/-! ### The 16-bit layouts -/

@[simp] theorem fields_pack16 (major : BitVec 5) (b c : Reg3) (low : BitVec 5) :
    let h := pack16 major b c low
    h.extractLsb' 11 5 = major ∧ hB h = b ∧ hC h = c ∧ hU5 h = low ∧
      h.extractLsb' 3 2 = low.extractLsb' 3 2 ∧ hA h = low.extractLsb' 0 3 := by
  simp (disch := decide) only [hA, hB, hC, hU5, pack16, BitVec.extractLsb'_append_eq_of_le,
    BitVec.extractLsb'_append_eq_of_add_le, Nat.reduceSub, BitVec.extractLsb'_eq_self, and_self]

/-- The low five bits of a half-word as a sub-opcode and a 3-bit field (R171, R172). -/
@[simp] theorem fields_low5 (i : BitVec 2) (a : Reg3) : (i ++ a).extractLsb' 3 2 = i ∧ (i ++ a).extractLsb' 0 3 = a := by
  simp (disch := decide) only [BitVec.extractLsb'_append_eq_of_le, BitVec.extractLsb'_append_eq_of_add_le, Nat.reduceSub,
    BitVec.extractLsb'_eq_self, and_self]

@[simp] theorem fields_packH (b : Reg3) (r : Reg) (i : BitVec 2) :
    let h := packH b r i
    h.extractLsb' 11 5 = 0x0E#5 ∧ hB h = b ∧ h.extractLsb' 3 2 = i ∧ hH h = r := by
  have hr (h : Half) : hH h = hA h ++ hC h := rfl
  simp only [hr, packH, fields_pack16, fields_low5, BitVec.extractLsb'_append_extractLsb', and_self]

end Sys2Proof
end

section
/-! Decoding the encoding of a format gives the format (30_encoding.md R136 to R187). `limm` is the word after the instruction
word: the long immediate of the format, if it has one. -/

namespace Sys2Proof

variable {limm : Word}

/-! ### The operand formats -/

@[simp] theorem fields_encodeGen (major : BitVec 5) (sub : BitVec 6) (form : GenForm) :
    fMajor (encodeGen major sub form) = major ∧ fSub (encodeGen major sub form) = sub := by
  cases form <;> simp [encodeGen]

theorem genForm_encodeGen (major : BitVec 5) (sub : BitVec 6) {form : GenForm}
    (h : limmIf form.limmPart.1 limm = form.limmPart.2) : genForm (encodeGen major sub form) limm = form := by
  cases form <;> simpa [encodeGen, genForm, GenForm.limmPart] using h

@[simp] theorem fields_encodeCmp (major : BitVec 5) (sub : BitVec 6) (f : Bool) (a : BitVec 6) (form : CmpForm) :
    let w := encodeCmp major sub f a form
    fMajor w = major ∧ fSub w = sub ∧ fF w = f := by
  cases form <;> simp [encodeCmp]

theorem cmpForm_encodeCmp (major : BitVec 5) (sub : BitVec 6) (f : Bool) (a : BitVec 6) {form : CmpForm}
    (h : limmIf form.limmPart.1 limm = form.limmPart.2) : cmpForm (encodeCmp major sub f a form) limm = form := by
  cases form <;> simpa [encodeCmp, cmpForm, CmpForm.limmPart] using h

@[simp] theorem fields_encodeMov (form : MovForm) : fMajor (encodeMov form) = 4#5 ∧ fSub (encodeMov form) = 0x0A#6 := by
  cases form <;> simp [encodeMov]

theorem movForm_encodeMov {form : MovForm} (h : limmIf form.limmPart.1 limm = form.limmPart.2) :
    movForm (encodeMov form) limm = form := by
  cases form with
  | bc | ccbc => simpa [encodeMov, movForm, MovForm.limmPart] using h
  | bu6 | bs12 | ccbu6 => simp [encodeMov, movForm]

@[simp] theorem fields_encodeJ (sub : BitVec 6) (form : JForm) :
    let w := encodeJ sub form
    fMajor w = 4#5 ∧ fSub w = sub ∧ fF w = false := by
  cases form <;> simp [encodeJ]

theorem jForm_encodeJ (sub : BitVec 6) {form : JForm} (h : limmIf form.limmPart.1 limm = form.limmPart.2) :
    jForm (encodeJ sub form) limm = form := by
  cases form with
  | c | ccc => simpa [encodeJ, jForm, JForm.limmPart] using h
  | u6 | s12 | ccu6 => simp [encodeJ, jForm]

@[simp] theorem fields_encodeJD (sub : BitVec 6) (form : JDForm) :
    let w := encodeJD sub form
    fMajor w = 4#5 ∧ fSub w = sub ∧ fF w = false := by
  cases form <;> simp [encodeJD]

theorem jdForm_encodeJD (sub : BitVec 6) {form : JDForm} (h : form.fits = true) :
    jdForm (encodeJD sub form) = some form := by
  cases form with
  | c r | ccc r =>
    have hr : isLimm r = false := by simpa [JDForm.fits] using h
    simp [encodeJD, jdForm, hr]
  | u6 | s12 | ccu6 => simp [encodeJD, jdForm]

/-! ### Major opcodes 2 to 5 -/

theorem decode32_of_major2 {w : Word} (h : fMajor w = 2#5) : decode32 w limm = decode2 w limm := by
  rw [decode32, h]
  rfl

theorem decode32_of_major3 {w : Word} (h : fMajor w = 3#5) : decode32 w limm = decode3 w limm := by
  rw [decode32, h]
  rfl

theorem decode32_of_major4 {w : Word} (h : fMajor w = 4#5) : decode32 w limm = decode4 w limm := by
  rw [decode32, h]
  rfl

theorem decode32_of_major5 {w : Word} (h : fMajor w = 5#5) : decode32 w limm = decode5 w limm := by
  rw [decode32, h]
  rfl

theorem decode32_of_alu {w : Word} {op : AluOp} (hmajor : fMajor w = op.code.1) (hsub : fSub w = op.code.2) :
    decode32 w limm = .ofShape (.alu op (genForm w limm)) := by
  cases op with
  | asl | lsr | asr | ror => rw [decode32_of_major5 hmajor, decode5, hsub]; rfl
  | _ => rw [decode32_of_major4 hmajor, decode4, hsub]; rfl

theorem decode32_of_test {w : Word} {op : TestOp} (hmajor : fMajor w = 4#5) (hsub : fSub w = op.code) (hf : fF w = true) :
    decode32 w limm = .ofShape (.test op (cmpForm w limm)) := by
  rw [decode32_of_major4 hmajor, decode4, hsub, hf]
  cases op <;> rfl

theorem fields_encodeSop (op : SopOp) (form : SopForm) :
    let w := encodeSop op form
    fMajor w = op.code.1 ∧ fSub w = 0x2F#6 ∧ fA w = op.code.2 := by
  cases form <;> simp [encodeSop]

theorem decodeSop_encodeSop (op : SopOp) (major4 : Bool) {form : SopForm}
    (h : limmIf form.limmPart.1 limm = form.limmPart.2) :
    decodeSop (encodeSop op form) limm (some op) major4 = .ofShape (.sop op form) := by
  cases form with
  | bc f b c x =>
    have hx : limmIf (isLimm c) limm = x := h
    simp [decodeSop, encodeSop, hx]
  | bu6 => simp [decodeSop, encodeSop]

theorem decode32_encodeSop (op : SopOp) {form : SopForm} (h : limmIf form.limmPart.1 limm = form.limmPart.2) :
    decode32 (encodeSop op form) limm = .ofShape (.sop op form) := by
  obtain ⟨hmajor, hsub, hop⟩ := fields_encodeSop op form
  cases op with
  | swap | norm | normw =>
    rw [decode32_of_major5 hmajor, decode5, hsub, hop]
    exact decodeSop_encodeSop _ false h
  | _ =>
    rw [decode32_of_major4 hmajor, decode4, hsub, hop]
    exact decodeSop_encodeSop _ true h

theorem decode32_encodeJF (form : JFForm) : decode32 (encodeJF form) limm = .ofShape (.jumpF form) := by
  cases form with
  | c l d => cases l <;> cases d <;> rfl
  | ccc l d q =>
    cases l <;> cases d <;> simp [encodeJF, decode32, decode4, Sub4.ofCode, decodeJ, decodeJD, decodeJF, ilinkOf]

/-! ### Loads and stores -/

/-- ZZ and X are the low bits of the sub-opcode of an indexed load (R144). -/
theorem ofCode_load (zz : BitVec 2) (x : BitVec 1) : Sub4.ofCode (6#3 ++ zz ++ x : BitVec 6).toNat = .load zz (x == 1#1) := by
  revert zz x
  decide

theorem ldKind_code (kind : LdKind) : ldKind kind.code.1 kind.code.2 = .ok kind := by cases kind <;> rfl

theorem stSize_code (sz : Size) : stSize sz.code = some sz := by cases sz <;> rfl

/-- What fits a write-back mode is the mode as it is read. -/
theorem aaOf_of_fits {isByte : Bool} {b : Reg} {aa : BitVec 2} (h : aaFits isByte b aa = true) : aaOf b aa = aa := by
  unfold aaFits at h
  unfold aaOf
  cases hb : isLimm b with
  | false => rfl
  | true =>
    rw [hb, cond_true, beq_iff_eq] at h
    exact h.symm

/-- The base register field of a 32-bit load (R144, R155). -/
def LdForm.base : LdForm → Reg
  | .rr _ b _ _ _ _ => b
  | .s9 _ b _ _ _ _ => b

/-- The write-back mode of a 32-bit load (R144, R155). -/
def LdForm.aa : LdForm → BitVec 2
  | .rr _ _ _ aa _ _ => aa
  | .s9 _ _ _ aa _ _ => aa

theorem LdForm.fits_eq (kind : LdKind) (form : LdForm) :
    form.fits kind = (!isLimm (Machine.ldDest form) && aaFits (kind.code.1 == 1#2) form.base form.aa) := by
  cases form <;> cases kind <;> rfl

theorem decodeLoad_of_error {zz : BitVec 2} {x : Bool} {u : UndefinedForm} (h : ldKind zz x = .error u) (form : LdForm) :
    decodeLoad zz x form = .undefinedForm u := by
  rw [decodeLoad, h]

theorem decodeLoad_of_ok {zz : BitVec 2} {x : Bool} {kind : LdKind} (h : ldKind zz x = .ok kind) (form : LdForm) :
    decodeLoad zz x form =
      bif !aaFits (zz == 1#2) form.base form.aa then .undefinedForm .scaledByte
      else bif isLimm (Machine.ldDest form) then .undefinedForm .loadNull
      else .ofShape (.load kind form) := by
  rw [decodeLoad, h]
  cases form <;> rfl

theorem decodeLoad_of_fits {kind : LdKind} {form : LdForm} (h : form.fits kind = true) :
    decodeLoad kind.code.1 kind.code.2 form = .ofShape (.load kind form) := by
  obtain ⟨hdest, haa⟩ : isLimm (Machine.ldDest form) = false ∧ aaFits (kind.code.1 == 1#2) form.base form.aa = true := by
    simpa [LdForm.fits_eq] using h
  rw [decodeLoad_of_ok (ldKind_code kind), haa, hdest]
  rfl

theorem LdForm.aaOf_of_fits {kind : LdKind} {form : LdForm} (h : form.fits kind = true) : aaOf form.base form.aa = form.aa := by
  rw [LdForm.fits_eq, Bool.and_eq_true] at h
  exact Sys2Proof.aaOf_of_fits h.2

theorem decode32_encodeLd {kind : LdKind} {form : LdForm} (h : limmIf form.limmPart.1 limm = form.limmPart.2)
    (hfit : form.fits kind = true) : decode32 (encodeLd kind form) limm = .ofShape (.load kind form) := by
  have haa := LdForm.aaOf_of_fits hfit
  rw [← decodeLoad_of_fits hfit]
  cases form with
  | rr a b c aa di x =>
    have hx : limmIf (isLimm b || isLimm c) limm = x := h
    have haa : aaOf b aa = aa := haa
    rw [decode32_of_major4 (by simp [encodeLd]), decode4]
    simp [encodeLd, ofCode_load, haa, hx, -BitVec.toNat_append]
  | s9 a b s aa di x =>
    have hx : limmIf (isLimm b) limm = x := h
    have haa : aaOf b aa = aa := haa
    simp [decode32_of_major2, decode2, haa, hx]

theorem decode32_encodeSt {sz : Size} {c b : Reg} {s : BitVec 9} {aa : BitVec 2} {di : Bool} {x : Word}
    (hx : limmIf (isLimm b || isLimm c) limm = x) (hfit : aaFits (sz == .byte) b aa = true) :
    decode32 (encodeSt sz c b s aa di) limm = .ofShape (.store sz c b s aa di x) := by
  simp [decode32_of_major3, decode3, stSize_code, aaOf_of_fits hfit, hfit, hx]

/-! ### Branches -/

theorem brOp_ofCode_code (op : BrOp) : BrOp.ofCode op.code.toNat = some op := by cases op <;> rfl

theorem decode32_encodeBr (op : BrOp) {form : BrForm} (h : limmIf form.limmPart.1 limm = form.limmPart.2)
    (hfit : form.fits = true) : decode32 (encodeBr op form) limm = .ofShape (.br op form) := by
  cases form with
  | bcs9 | bu6s9 =>
    simp only [BrForm.limmPart] at h
    simp (disch := decide) [decode32, decode1, decodeBr, brOp_ofCode_code, fMajor, fB, fC, bitAt, encodeBr, h, hfit,
      BitVec.extractLsb'_append_eq_of_le, BitVec.extractLsb'_append_eq_of_add_le,
      BitVec.extractLsb'_append_extractLsb'_eq_extractLsb', -Nat.reduceAdd]

/-! ### Every 32-bit format -/

theorem decode32_encode32 {v : Shape} (hshort : v.isShort = false) (h : limmIf v.limmPart.1 limm = v.limmPart.2)
    (hfit : v.fieldsFit = true) : decode32 (encode32 v) limm = .ofShape v := by
  cases v with
  | alu op form => rw [encode32, decode32_of_alu (op := op) (by simp) (by simp), genForm_encodeGen _ _ h]
  | test op form => rw [encode32, decode32_of_test (op := op) (by simp) (by simp) (by simp), cmpForm_encodeCmp _ _ _ _ h]
  | mul sgn form =>
    have hform := fun sub => cmpForm_encodeCmp 5#5 sub false 62#6 (form := form) h
    cases sgn <;> simp [encode32, decode32, decode5, Sub5.ofCode, hform]
  | mov form =>
    have hf : form.fits = true := hfit
    simp [encode32, decode32, decode4, Sub4.ofCode, decodeMov, movForm_encodeMov (form := form) h, hf]
  | sop op form => exact decode32_encodeSop op h
  | jump link form =>
    have hform := fun sub => jForm_encodeJ sub (form := form) h
    cases link <;> simp [encode32, decode32, decode4, Sub4.ofCode, decodeJ, hform]
  | jumpD link form =>
    have hform := fun sub => jdForm_encodeJD sub (form := form) hfit
    cases link <;> simp [encode32, decode32, decode4, Sub4.ofCode, decodeJD, hform]
  | jumpF form => exact decode32_encodeJF form
  | lp form => cases form <;> simp [encode32, encodeLp, decode32, decode4, Sub4.ofCode, decodeLp]
  | flag form =>
    simp [encode32, decode32, decode4, Sub4.ofCode, jForm_encodeJ _ (form := form) h]
  | lr form =>
    cases form with
    | bc b c x =>
      have hx : limmIf (isLimm c) limm = x := h
      simp [encode32, encodeLr, decode32, decode4, Sub4.ofCode, decodeLr, hx]
    | bs12 => simp [encode32, encodeLr, decode32, decode4, Sub4.ofCode, decodeLr]
  | sr form =>
    cases form with
    | bc b c x =>
      have hx : limmIf (isLimm b || isLimm c) limm = x := h
      simp [encode32, encodeSr, decode32, decode4, Sub4.ofCode, decodeSr, hx]
    | bs12 b s x =>
      have hx : limmIf (isLimm b) limm = x := h
      simp [encode32, encodeSr, decode32, decode4, Sub4.ofCode, decodeSr, hx]
  | nop | sleep | swi => rfl
  | load kind form => exact decode32_encodeLd h hfit
  | store => exact decode32_encodeSt h hfit
  | bcc | bfar | blcc | bl =>
    simp (disch := decide) [decode32, decode0, decode1, fMajor, fQ, bitAt, encode32, BitVec.extractLsb'_append_eq_of_le,
      BitVec.extractLsb'_append_eq_of_add_le, BitVec.extractLsb'_append_extractLsb'_eq_extractLsb', -Nat.reduceAdd]
  | br op form => exact decode32_encodeBr op h hfit
  | load16 | store16 | data16 | mul16 | ctl16 | nop16 | brk => cases hshort

/-! ### The 16-bit formats -/

theorem decode16_encodeLd16 (form : Ld16) : decode16 (encodeLd16 form) limm = .ofShape (.load16 form) := by
  cases form with
  | abc sz => cases sz <;> simp [encodeLd16, decode16, decodeC]
  | cbu sz => cases sz <;> simp [encodeLd16, decode16]
  | cbuX | pop => simp [encodeLd16, decode16, decode18]
  | sp byte => cases byte <;> simp [encodeLd16, decode16, decode18]
  | gp sz =>
    cases sz <;> simp (disch := decide) [encodeLd16, decode16, decode19, BitVec.extractLsb'_append_eq_of_le,
      BitVec.extractLsb'_append_eq_of_add_le, -Nat.reduceAdd]
  | pcl =>
    simp (disch := decide) [encodeLd16, decode16, hB, BitVec.extractLsb'_append_eq_of_le,
      BitVec.extractLsb'_append_eq_of_add_le, -Nat.reduceAdd]
  | popBlink => rfl

theorem decode16_encodeSt16 (form : St16) : decode16 (encodeSt16 form) limm = .ofShape (.store16 form) := by
  cases form with
  | cbu sz => cases sz <;> simp [encodeSt16, decode16]
  | sp byte => cases byte <;> simp [encodeSt16, decode16, decode18]
  | push => simp [encodeSt16, decode16, decode18]
  | pushBlink => rfl

theorem decode16_encodeData16 {form : Data16} (h : limmIf form.limmPart.1 limm = form.limmPart.2) :
    decode16 (encodeData16 form) limm = .ofShape (.data16 form) := by
  cases form with
  | addBbh b r x | movBh b r x | cmpBh b r x =>
    have hx : limmIf (isLimm r) limm = x := h
    simp [encodeData16, decode16, decodeE, hx]
  | movHb => simp [encodeData16, decode16, decodeE]
  | addAbc => simp [encodeData16, decode16, decodeC]
  | cbu3 op => cases op <;> simp [encodeData16, decode16, OpU3.code, OpU3.ofCode]
  | bbc op => cases op <;> simp [encodeData16, decode16, decodeF, OpBbc.code]
  | bc op => cases op <;> simp [encodeData16, decode16, decodeF, OpBc.code]
  | tst => simp [encodeData16, decode16, decodeF]
  | subNe => simp [encodeData16, decode16, decodeF, decodeFSop]
  | bbu5 op => cases op <;> simp [encodeData16, decode16, decode17, OpU5.code]
  | btst => simp [encodeData16, decode16, decode17]
  | addSp => simp [encodeData16, decode16, decode18]
  | adjSp sub => cases sub <;> simp [encodeData16, decode16, decode18]
  | addGp | movU8 | addU7 | cmpU7 =>
    simp (disch := decide) [encodeData16, decode16, decode19, hB, bitAt, BitVec.extractLsb'_append_eq_of_le,
      BitVec.extractLsb'_append_eq_of_add_le, -Nat.reduceAdd]

theorem decode16_encodeCtl16 (form : Ctl16) : decode16 (encodeCtl16 form) limm = .ofShape (.ctl16 form) := by
  cases form with
  | j link d => cases link <;> cases d <;> simp [encodeCtl16, decode16, decodeF, decodeFSop]
  | jBlink d => cases d <;> rfl
  | jCond ne => cases ne <;> rfl
  | b cond =>
    cases cond <;> simp (disch := decide) [encodeCtl16, decode16, decode1E, BitVec.extractLsb'_append_eq_of_le,
      BitVec.extractLsb'_append_eq_of_add_le, -Nat.reduceAdd]
  | bcc cond =>
    cases cond <;> simp (disch := decide) [encodeCtl16, decode16, decode1E, Cc8.code, Cc8.ofCode,
      BitVec.extractLsb'_append_eq_of_le, BitVec.extractLsb'_append_eq_of_add_le, -Nat.reduceAdd]
  | br | bl =>
    simp (disch := decide) [encodeCtl16, decode16, hB, bitAt, BitVec.extractLsb'_append_eq_of_le,
      BitVec.extractLsb'_append_eq_of_add_le, -Nat.reduceAdd]

theorem decode16_encode16 {v : Shape} (hshort : v.isShort = true) (h : limmIf v.limmPart.1 limm = v.limmPart.2) :
    decode16 (encode16 v) limm = .ofShape v := by
  cases v with
  | load16 form => exact decode16_encodeLd16 form
  | store16 form => exact decode16_encodeSt16 form
  | data16 form => exact decode16_encodeData16 h
  | mul16 => simp [encode16, decode16, decodeF]
  | ctl16 form => exact decode16_encodeCtl16 form
  | nop16 | brk => rfl
  | _ => cases hshort

end Sys2Proof
end

section
/-! What the decoder accepts is well formed, and whether an instruction has a long immediate does not depend on the word after
it (30_encoding.md R133): two readings of one instruction word, with different words after it, are compared. -/

namespace Sys2Proof

/-- Two readings of one instruction, with `limm` and with `limm'` after the instruction word: a format in both, whose fields
fit and which asks in both or in neither for a long immediate, or the same answer. -/
inductive Decoded.SameFields (limm limm' : Word) : Decoded → Decoded → Prop
  | ofShape {v v' : Shape} {u : Bool} (hl : v.limmPart = (u, limmIf u limm)) (hl' : v'.limmPart = (u, limmIf u limm'))
    (hfit : v.fieldsFit = true) : SameFields limm limm' (.ofShape v) (.ofShape v')
  | reserved : SameFields limm limm' .reserved .reserved
  | undefinedForm (x : UndefinedForm) : SameFields limm limm' (.undefinedForm x) (.undefinedForm x)

/-- What is decoded is well formed, and decoded with any other word after it. -/
theorem Decoded.SameFields.of_ok {limm limm' : Word} {i : Instr} {d : Decoded}
    (h : Decoded.SameFields limm limm' (.ok i) d) : i.wf = true ∧ ∃ j, d = .ok j ∧ j.hasLimm = i.hasLimm := by
  generalize hd : Decoded.ok i = d' at h
  cases h with
  | @ofShape v v' u hl hl' hfit =>
    obtain rfl := Decoded.ok.inj hd
    have hlimm : v.limmFits = true := by
      rw [Shape.limmFits, hl]
      cases u <;> rfl
    refine ⟨?_, _, rfl, ?_⟩
    · rw [Instr.wf, Instr.shape_ofShape, Shape.wf, hlimm, hfit]
      rfl
    · rw [Instr.hasLimm, Instr.hasLimm, Instr.shape_ofShape, Instr.shape_ofShape, hl, hl']
  | reserved | undefinedForm => cases hd

/-- A format without a long immediate reads the same whatever follows. -/
theorem Decoded.SameFields.of_no_limm {v : Shape} (hl : v.limmPart = (false, 0#32)) (hfit : v.fieldsFit = true)
    (limm limm' : Word) : Decoded.SameFields limm limm' (.ofShape v) (.ofShape v) :=
  .ofShape hl hl hfit

/-! ### The operand formats -/

theorem genForm_limmPart (w : Word) : ∃ u, ∀ limm, (genForm w limm).limmPart = (u, limmIf u limm) := by
  unfold genForm
  split
  case h_4 => cases bitAt w 5 <;> exact ⟨_, fun _ => rfl⟩
  all_goals exact ⟨_, fun _ => rfl⟩

theorem cmpForm_limmPart (w : Word) : ∃ u, ∀ limm, (cmpForm w limm).limmPart = (u, limmIf u limm) := by
  unfold cmpForm
  split
  case h_4 => cases bitAt w 5 <;> exact ⟨_, fun _ => rfl⟩
  all_goals exact ⟨_, fun _ => rfl⟩

theorem movForm_limmPart (w : Word) : ∃ u, ∀ limm, (movForm w limm).limmPart = (u, limmIf u limm) := by
  unfold movForm
  split
  case h_1 => exact ⟨_, fun _ => rfl⟩
  case h_2 | h_3 => exact ⟨false, fun _ => rfl⟩
  case h_4 =>
    cases bitAt w 5 with
    | true => exact ⟨false, fun _ => rfl⟩
    | false => exact ⟨_, fun _ => rfl⟩

theorem jForm_limmPart (w : Word) : ∃ u, ∀ limm, (jForm w limm).limmPart = (u, limmIf u limm) := by
  unfold jForm
  split
  case h_1 => exact ⟨_, fun _ => rfl⟩
  case h_2 | h_3 => exact ⟨false, fun _ => rfl⟩
  case h_4 =>
    cases bitAt w 5 with
    | true => exact ⟨false, fun _ => rfl⟩
    | false => exact ⟨_, fun _ => rfl⟩

/-- Whether the fields of a MOV are those of NOP does not depend on the long immediate. -/
theorem movForm_fits (w limm limm' : Word) : (movForm w limm).fits = (movForm w limm').fits := by
  unfold movForm
  split
  case h_4 => cases bitAt w 5 <;> rfl
  all_goals rfl

theorem jdForm_fits {w : Word} {form : JDForm} (h : jdForm w = some form) : form.fits = true := by
  unfold jdForm at h
  split at h
  case h_1 =>
    cases hr : isLimm (fC w) with
    | true => rw [hr] at h; cases h
    | false =>
      rw [hr] at h
      obtain rfl := Option.some.inj h
      simp [JDForm.fits, hr]
  case h_2 | h_3 => obtain rfl := Option.some.inj h; rfl
  case h_4 =>
    cases hb : bitAt w 5 with
    | true =>
      rw [hb] at h
      obtain rfl := Option.some.inj h
      rfl
    | false =>
      cases hr : isLimm (fC w) with
      | true => rw [hb, hr] at h; cases h
      | false =>
        rw [hb, hr] at h
        obtain rfl := Option.some.inj h
        simp [JDForm.fits, hr]

theorem ldKind_eq_ok {zz : BitVec 2} {x : Bool} {kind : LdKind} (h : ldKind zz x = .ok kind) : kind.code = (zz, x) := by
  have hzz : ∀ z : BitVec 2, z = 0#2 ∨ z = 1#2 ∨ z = 2#2 ∨ z = 3#2 := by decide
  obtain rfl | rfl | rfl | rfl := hzz zz
  · cases x with
    | false => cases h; rfl
    | true => cases h
  · cases h; rfl
  · cases h; rfl
  · cases h

/-! ### The 32-bit formats -/

variable (w limm limm' : Word)

theorem decodeJF_sameFields (d : Bool) : (decodeJF w d).SameFields limm limm' (decodeJF w d) := by
  unfold decodeJF
  split
  case h_1 => exact .of_no_limm rfl rfl ..
  case h_2 =>
    cases bitAt w 5 with
    | true => exact .undefinedForm _
    | false => exact .of_no_limm rfl rfl ..
  case h_3 => exact .undefinedForm _

theorem decodeJ_sameFields (link : Bool) : (decodeJ w limm link).SameFields limm limm' (decodeJ w limm' link) := by
  obtain ⟨u, hu⟩ := jForm_limmPart w
  unfold decodeJ
  cases fF w with
  | false => exact .ofShape (hu limm) (hu limm') rfl
  | true =>
    cases link with
    | true => exact .undefinedForm _
    | false => exact decodeJF_sameFields w limm limm' false

theorem decodeJD_sameFields (link : Bool) : (decodeJD w link).SameFields limm limm' (decodeJD w link) := by
  unfold decodeJD
  cases fF w with
  | false =>
    cases hform : jdForm w with
    | none => exact .undefinedForm _
    | some form => exact .of_no_limm (v := .jumpD link form) rfl (jdForm_fits hform) ..
  | true =>
    cases link with
    | true => exact .undefinedForm _
    | false => exact decodeJF_sameFields w limm limm' true

theorem decodeLp_sameFields : (decodeLp w).SameFields limm limm' (decodeLp w) := by
  unfold decodeLp
  cases fF w with
  | true => exact .undefinedForm _
  | false =>
    dsimp only [cond_false]
    split
    case h_1 => exact .of_no_limm rfl rfl ..
    case h_2 =>
      cases bitAt w 5 with
      | true => exact .of_no_limm rfl rfl ..
      | false => exact .undefinedForm _
    case h_3 => exact .undefinedForm _

theorem decodeLr_sameFields : (decodeLr w limm).SameFields limm limm' (decodeLr w limm') := by
  unfold decodeLr
  split
  case h_1 => exact .ofShape rfl rfl rfl
  case h_2 => exact .of_no_limm rfl rfl ..
  case h_3 => exact .undefinedForm _

theorem decodeSr_sameFields : (decodeSr w limm).SameFields limm limm' (decodeSr w limm') := by
  unfold decodeSr
  split
  case h_1 | h_2 => exact .ofShape rfl rfl rfl
  case h_3 => exact .undefinedForm _

theorem decodeSop_sameFields (op : Option SopOp) (major4 : Bool) :
    (decodeSop w limm op major4).SameFields limm limm' (decodeSop w limm' op major4) := by
  unfold decodeSop
  split
  case h_1 =>
    cases op with
    | some op => exact .ofShape rfl rfl rfl
    | none =>
      cases hz : major4 && fA w == 0x3F#6 && (fB w == 1#6 || fB w == 2#6) with
      | true => exact .undefinedForm _
      | false => exact .reserved
  case h_2 =>
    cases op with
    | some op => exact .of_no_limm rfl rfl ..
    | none =>
      cases major4 && fA w == 0x3F#6 && fB w == 1#6 with
      | true => exact .of_no_limm rfl rfl ..
      | false =>
        cases major4 && fA w == 0x3F#6 && fB w == 2#6 with
        | true => exact .of_no_limm rfl rfl ..
        | false => exact .reserved
  case h_3 => exact .undefinedForm _

theorem decodeMov_sameFields : (decodeMov w limm).SameFields limm limm' (decodeMov w limm') := by
  obtain ⟨u, hu⟩ := movForm_limmPart w
  unfold decodeMov
  dsimp only
  rw [movForm_fits w limm' limm]
  cases hfit : (movForm w limm).fits with
  | true => exact .ofShape (hu limm) (hu limm') hfit
  | false => exact .of_no_limm rfl rfl ..

variable {limm limm'} in
theorem decodeLoad_sameFields (zz : BitVec 2) (x : Bool) {form form' : LdForm} {u : Bool}
    (hl : form.limmPart = (u, limmIf u limm)) (hl' : form'.limmPart = (u, limmIf u limm'))
    (hdest : Machine.ldDest form' = Machine.ldDest form) (hbase : form'.base = form.base) (haa : form'.aa = form.aa) :
    (decodeLoad zz x form).SameFields limm limm' (decodeLoad zz x form') := by
  cases hk : ldKind zz x with
  | error =>
    rw [decodeLoad_of_error hk, decodeLoad_of_error hk]
    exact .undefinedForm _
  | ok kind =>
    rw [decodeLoad_of_ok hk, decodeLoad_of_ok hk, hdest, hbase, haa]
    cases hmode : aaFits (zz == 1#2) form.base form.aa with
    | false => exact .undefinedForm _
    | true =>
      cases hnull : isLimm (Machine.ldDest form) with
      | true => exact .undefinedForm _
      | false =>
        have hfit : form.fits kind = true := by rw [LdForm.fits_eq, ldKind_eq_ok hk, hnull, hmode]; rfl
        exact .ofShape hl hl' hfit

theorem decode4_sameFields : (decode4 w limm).SameFields limm limm' (decode4 w limm') := by
  obtain ⟨ug, hgen⟩ := genForm_limmPart w
  obtain ⟨uc, hcmp⟩ := cmpForm_limmPart w
  obtain ⟨uj, hj⟩ := jForm_limmPart w
  unfold decode4
  cases Sub4.ofCode (fSub w).toNat with
  | alu => exact .ofShape (hgen limm) (hgen limm') rfl
  | test =>
    cases fF w with
    | true => exact .ofShape (hcmp limm) (hcmp limm') rfl
    | false => exact .undefinedForm _
  | mov => exact decodeMov_sameFields w limm limm'
  | jump link => exact decodeJ_sameFields w limm limm' link
  | jumpD link => exact decodeJD_sameFields w limm limm' link
  | lp => exact decodeLp_sameFields w limm limm'
  | flag => exact .ofShape (hj limm) (hj limm') rfl
  | lr => exact decodeLr_sameFields w limm limm'
  | sr => exact decodeSr_sameFields w limm limm'
  | sop => exact decodeSop_sameFields w limm limm' _ true
  | load zz x => exact decodeLoad_sameFields zz x rfl rfl rfl rfl rfl
  | reserved => exact .reserved

theorem decode5_sameFields : (decode5 w limm).SameFields limm limm' (decode5 w limm') := by
  obtain ⟨ug, hgen⟩ := genForm_limmPart w
  obtain ⟨uc, hcmp⟩ := cmpForm_limmPart w
  unfold decode5
  cases Sub5.ofCode (fSub w).toNat with
  | alu => exact .ofShape (hgen limm) (hgen limm') rfl
  | mul => exact .ofShape (hcmp limm) (hcmp limm') rfl
  | sop => exact decodeSop_sameFields w limm limm' _ false
  | reserved => exact .reserved

theorem decode0_sameFields : (decode0 w).SameFields limm limm' (decode0 w) := by
  unfold decode0
  cases bitAt w 16 <;> exact .of_no_limm rfl rfl ..

variable {limm limm'} in
theorem brForm_sameFields (op : BrOp) {form form' : BrForm} {u : Bool} (hl : form.limmPart = (u, limmIf u limm))
    (hl' : form'.limmPart = (u, limmIf u limm')) (hfits : form'.fits = form.fits) :
    Decoded.SameFields limm limm' (bif form.fits then .ofShape (.br op form) else .undefinedForm .delayedWithLimm)
      (bif form'.fits then .ofShape (.br op form') else .undefinedForm .delayedWithLimm) := by
  rw [hfits]
  cases hfit : form.fits with
  | true => exact .ofShape hl hl' hfit
  | false => exact .undefinedForm _

theorem decodeBr_sameFields : (decodeBr w limm).SameFields limm limm' (decodeBr w limm') := by
  unfold decodeBr
  cases BrOp.ofCode (w.extractLsb' 0 4).toNat with
  | none => exact .reserved
  | some op => cases bitAt w 4 <;> exact brForm_sameFields op rfl rfl rfl

theorem decode1_sameFields : (decode1 w limm).SameFields limm limm' (decode1 w limm') := by
  unfold decode1
  cases bitAt w 16 with
  | true => exact decodeBr_sameFields w limm limm'
  | false => cases bitAt w 17 <;> exact .of_no_limm rfl rfl ..

theorem decode3_sameFields : (decode3 w limm).SameFields limm limm' (decode3 w limm') := by
  unfold decode3
  cases stSize (w.extractLsb' 1 2) with
  | none => exact .undefinedForm _
  | some sz =>
    dsimp only
    cases hfit : aaFits (sz == .byte) (fB w) (aaOf (fB w) (w.extractLsb' 3 2)) with
    | true => exact .ofShape rfl rfl hfit
    | false => exact .undefinedForm _

theorem decode32_sameFields : (decode32 w limm).SameFields limm limm' (decode32 w limm') := by
  unfold decode32
  split
  case h_1 => exact decode0_sameFields w limm limm'
  case h_2 => exact decode1_sameFields w limm limm'
  case h_3 => exact decodeLoad_sameFields _ _ rfl rfl rfl rfl rfl
  case h_4 => exact decode3_sameFields w limm limm'
  case h_5 => exact decode4_sameFields w limm limm'
  case h_6 => exact decode5_sameFields w limm limm'
  case h_7 => exact .reserved

/-! ### The 16-bit formats -/

variable (h : Half)

theorem decodeC_sameFields : (decodeC h).SameFields limm limm' (decodeC h) := by
  unfold decodeC
  split <;> exact .of_no_limm rfl rfl ..

theorem decodeE_sameFields : (decodeE h limm).SameFields limm limm' (decodeE h limm') := by
  unfold decodeE
  split
  case h_4 => exact .of_no_limm rfl rfl ..
  all_goals exact .ofShape rfl rfl rfl

theorem decodeFSop_sameFields : (decodeFSop h).SameFields limm limm' (decodeFSop h) := by
  unfold decodeFSop
  split
  case h_6 =>
    unfold decodeFZop
    split
    case h_6 => exact .reserved
    all_goals exact .of_no_limm rfl rfl ..
  case h_7 => exact .reserved
  all_goals exact .of_no_limm rfl rfl ..

theorem decodeF_sameFields : (decodeF h).SameFields limm limm' (decodeF h) := by
  unfold decodeF
  dsimp only
  split
  case h_1 => exact decodeFSop_sameFields limm limm' h
  case h_25 =>
    cases h == 0x7FFF#16 with
    | true => exact .of_no_limm rfl rfl ..
    | false => exact .undefinedForm _
  case h_26 => exact .reserved
  all_goals exact .of_no_limm rfl rfl ..

theorem decode17_sameFields : (decode17 h).SameFields limm limm' (decode17 h) := by
  unfold decode17
  dsimp only
  split <;> exact .of_no_limm rfl rfl ..

theorem decode18_sameFields : (decode18 h).SameFields limm limm' (decode18 h) := by
  unfold decode18
  split
  case h_6 =>
    cases hB h == 0#3 with
    | true => exact .of_no_limm rfl rfl ..
    | false =>
      cases hB h == 1#3 with
      | true => exact .of_no_limm rfl rfl ..
      | false => exact .undefinedForm _
  case h_7 | h_8 =>
    cases hU5 h == 1#5 with
    | true => exact .of_no_limm rfl rfl ..
    | false =>
      cases hU5 h == 17#5 with
      | true => exact .of_no_limm rfl rfl ..
      | false => exact .undefinedForm _
  all_goals exact .of_no_limm rfl rfl ..

theorem decode19_sameFields : (decode19 h).SameFields limm limm' (decode19 h) := by
  unfold decode19
  dsimp only
  split <;> exact .of_no_limm rfl rfl ..

theorem decode1E_sameFields : (decode1E h).SameFields limm limm' (decode1E h) := by
  unfold decode1E
  dsimp only
  split <;> exact .of_no_limm rfl rfl ..

theorem decode16_sameFields : (decode16 h limm).SameFields limm limm' (decode16 h limm') := by
  unfold decode16
  split
  case h_1 => exact decodeC_sameFields limm limm' h
  case h_3 => exact decodeE_sameFields limm limm' h
  case h_4 => exact decodeF_sameFields limm limm' h
  case h_12 => exact decode17_sameFields limm limm' h
  case h_13 => exact decode18_sameFields limm limm' h
  case h_14 => exact decode19_sameFields limm limm' h
  case h_17 => cases bitAt h 7 <;> exact .of_no_limm rfl rfl ..
  case h_19 => exact decode1E_sameFields limm limm' h
  case h_21 => exact .reserved
  all_goals exact .of_no_limm rfl rfl ..

theorem decodeHalves_sameFields (h0 h1 : Half) :
    (decodeHalves h0 h1 limm).SameFields limm limm' (decodeHalves h0 h1 limm') := by
  unfold decodeHalves
  cases isWide h0 with
  | true => exact decode32_sameFields (h0 ++ h1) limm limm'
  | false => exact decode16_sameFields limm limm' h0

end Sys2Proof
end

section
/-! Instructions as the half-words and bytes in memory: the round trip of a whole instruction, its length, and the combinations
of fields that the manual leaves undefined (20_memory.md R97; 30_encoding.md R130, R133, R200). -/

namespace Sys2Proof

/-! ### The length from the major opcode -/

/-- The first half-word tells the length by its major opcode (30_encoding.md R130). -/
theorem isWide_eq (h : Half) : isWide h = decide ((h.extractLsb' 11 5).toNat < 8) := by
  have hmajor : (h.extractLsb' 11 5).toNat = h.toNat / 2048 := by
    have hlt : h.toNat < 2 ^ 16 := h.isLt
    simp only [BitVec.extractLsb'_toNat, Nat.shiftRight_eq_div_pow]
    omega
  rw [isWide, hmajor]

/-- A field of a long word in its upper half-word. -/
theorem extractLsb'_append_upper (h0 h1 : Half) (k n : Nat) :
    (h0 ++ h1).extractLsb' (16 + k) n = h0.extractLsb' k n := by
  rw [BitVec.extractLsb'_append_eq_of_le (Nat.le_add_right 16 k), Nat.add_sub_cancel_left]

theorem fMajor_append (h0 h1 : Half) : fMajor (h0 ++ h1) = h0.extractLsb' 11 5 :=
  extractLsb'_append_upper h0 h1 11 5

/-- The 32-bit decoder reads nothing above major opcode 5 (R131, R167). -/
theorem fMajor_of_decode32_ok {w limm : Word} {i : Instr} (h : decode32 w limm = .ok i) : (fMajor w).toNat < 8 := by
  unfold decode32 at h
  split at h
  case h_7 => cases h
  all_goals omega

/-- The 16-bit decoder reads nothing below major opcode 0x0C (R187). -/
theorem major_of_decode16_ok {h : Half} {limm : Word} {i : Instr} (hd : decode16 h limm = .ok i) :
    ¬ (h.extractLsb' 11 5).toNat < 8 := by
  unfold decode16 at hd
  split at hd
  case h_21 => cases hd
  all_goals omega

/-! ### The round trip -/

theorem append_halves (w : Word) : (w.extractLsb' 16 16 ++ w.extractLsb' 0 16 : Word) = w :=
  BitVec.extractLsb'_append_extractLsb' (w := 16) (len := 16)

theorem Shape.wf_iff {v : Shape} : v.wf = true ↔ limmIf v.limmPart.1 v.limmPart.2 = v.limmPart.2 ∧ v.fieldsFit = true := by
  have hlimm : v.limmFits = true ↔ limmIf v.limmPart.1 v.limmPart.2 = v.limmPart.2 := by
    rw [Shape.limmFits]
    cases v.limmPart.1 with
    | true => exact iff_of_true rfl rfl
    | false => exact beq_iff_eq.trans eq_comm
  rw [Shape.wf, Bool.and_eq_true, hlimm]

/-- The half-words before the long immediate. -/
def Shape.head (v : Shape) : List Half := bif v.isShort then [encode16 v] else halvesOfWord (encode32 v)

theorem encode_eq (i : Instr) :
    encode i = i.shape.head ++ bif i.hasLimm then halvesOfWord i.shape.limmPart.2 else [] := rfl

/-- The half-words before the long immediate decode to the instruction, with its long immediate after them; a 16-bit
instruction has one half-word there, and what stands second does not matter. -/
theorem decodeHalves_head {i : Instr} (hi : i.wf = true) :
    (∃ h0 h1, i.shape.head = [h0, h1] ∧ isWide h0 = true ∧ decodeHalves h0 h1 i.shape.limmPart.2 = .ok i) ∨
    (∃ h0, i.shape.head = [h0] ∧ isWide h0 = false ∧ ∀ h1, decodeHalves h0 h1 i.shape.limmPart.2 = .ok i) := by
  obtain ⟨hlimm, hfit⟩ := Shape.wf_iff.1 hi
  have hshape : Decoded.ofShape i.shape = .ok i := congrArg Decoded.ok (Instr.ofShape_shape i)
  cases hshort : i.shape.isShort with
  | false =>
    have hd := (decode32_encode32 hshort hlimm hfit).trans hshape
    have hwide : isWide ((encode32 i.shape).extractLsb' 16 16) = true := by
      rw [isWide_eq, ← fMajor_append _ ((encode32 i.shape).extractLsb' 0 16), append_halves]
      exact decide_eq_true (fMajor_of_decode32_ok hd)
    refine .inl ⟨_, _, by rw [Shape.head, hshort]; rfl, hwide, ?_⟩
    rw [decodeHalves, hwide, append_halves]
    exact hd
  | true =>
    have hd := (decode16_encode16 hshort hlimm).trans hshape
    have hwide : isWide (encode16 i.shape) = false := by
      rw [isWide_eq]
      exact decide_eq_false (major_of_decode16_ok hd)
    refine .inr ⟨_, by rw [Shape.head, hshort]; rfl, hwide, fun h1 => ?_⟩
    rw [decodeHalves, hwide]
    exact hd

/-- The first reading, without the long immediate, tells whether there is one. -/
theorem decodeHalves_zero {h0 h1 : Half} {limm : Word} {i : Instr} (h : decodeHalves h0 h1 limm = .ok i) :
    ∃ j, decodeHalves h0 h1 0#32 = .ok j ∧ j.hasLimm = i.hasLimm :=
  (h ▸ decodeHalves_sameFields limm 0#32 h0 h1).of_ok.2

/-- Without a long immediate the field that holds it is 0. -/
theorem limm_eq_zero {i : Instr} (hi : i.wf = true) (h : i.hasLimm = false) : i.shape.limmPart.2 = 0#32 := by
  rw [← (Shape.wf_iff.1 hi).1, show i.shape.limmPart.1 = false from h]
  rfl

theorem decodeList_encode {i : Instr} (hi : i.wf = true) : decodeList (encode i) = .ok i := by
  rw [encode_eq]
  obtain ⟨h0, h1, hhead, hwide, hd⟩ | ⟨h0, hhead, hwide, hd⟩ := decodeHalves_head hi
  · cases hlimm : i.hasLimm with
    | false =>
      rw [limm_eq_zero hi hlimm] at hd
      simp [hhead, decodeList, hwide, hd, hlimm]
    | true =>
      obtain ⟨j, hj, hjl⟩ := decodeHalves_zero hd
      simp [hhead, decodeList, halvesOfWord, hwide, hj, hjl, hlimm, append_halves, hd]
  · cases hlimm : i.hasLimm with
    | false =>
      rw [limm_eq_zero hi hlimm] at hd
      simp [hhead, decodeList, hwide, hd, hlimm]
    | true =>
      obtain ⟨j, hj, hjl⟩ := decodeHalves_zero (hd 0#16)
      simp [hhead, decodeList, halvesOfWord, hwide, hj, hjl, hlimm, append_halves, hd]

/-- Half-words are read back from their bytes (20_memory.md R97). -/
theorem halvesOf_bytesOfHalves (hs : List Half) : halvesOf (bytesOfHalves hs) = some hs := by
  induction hs with
  | nil => rfl
  | cons h hs ih =>
    have hh : (h.extractLsb' 8 8 ++ h.extractLsb' 0 8 : Half) = h := BitVec.extractLsb'_append_extractLsb' (w := 8) (len := 8)
    rw [bytesOfHalves, halvesOf, ih, hh]
    rfl

/-- Settles O1: the fields of an instruction word are those it was packed from, so that the format is read back; the long
immediate is found because the reading without it already tells that there is one. -/
theorem decodeOfEncode : Obligations.DecodeOfEncode := by
  intro i hi
  refine ⟨decodeList_encode hi, ?_⟩
  rw [decodeBytes, encodeBytes, halvesOf_bytesOfHalves]
  exact decodeList_encode hi

/-! ### The length -/

theorem length_head (i : Instr) : 2 * i.shape.head.length = i.base := by
  rw [Shape.head, Instr.base]
  cases i.shape.isShort <;> rfl

theorem length_encode (i : Instr) : 2 * (encode i).length = i.length := by
  rw [encode_eq, List.length_append, Nat.mul_add, length_head, Instr.length]
  cases i.hasLimm <;> rfl

/-- The first half-word of an encoding tells the base length by its major opcode. -/
theorem exists_encode_cons {i : Instr} (hi : i.wf = true) :
    ∃ h rest, encode i = h :: rest ∧ i.base = if (h.extractLsb' 11 5).toNat < 8 then 4 else 2 := by
  rw [encode_eq]
  obtain ⟨h0, h1, hhead, hwide, -⟩ | ⟨h0, hhead, hwide, -⟩ := decodeHalves_head hi
  · rw [isWide_eq, decide_eq_true_iff] at hwide
    refine ⟨h0, _, by rw [hhead]; rfl, ?_⟩
    rw [if_pos hwide, ← length_head, hhead]
    rfl
  · rw [isWide_eq, decide_eq_false_iff_not] at hwide
    refine ⟨h0, _, by rw [hhead]; rfl, ?_⟩
    rw [if_neg hwide, ← length_head, hhead]
    rfl

end Sys2Proof
end

section
/-! The combinations of fields that the manual leaves undefined are refused by name (30_encoding.md R200 (c)), decoder by
decoder. -/

namespace Sys2Proof

open Machine

/-- A reading that names an undefined combination of fields. -/
def Decoded.IsUndefined (d : Decoded) : Prop := ∃ u, d = .undefinedForm u

theorem isUndefined_undefinedForm (u : UndefinedForm) : (Decoded.undefinedForm u).IsUndefined := ⟨u, rfl⟩

variable {w limm : Word}

/-! ### Loads and stores -/

/-- The base field asks for a long immediate, by the two parts of the field (R132). -/
theorem isLimm_fB (w : Word) : isLimm (fB w) = true ↔ (w.extractLsb' 12 3).toNat = 7 ∧ (w.extractLsb' 24 3).toNat = 6 := by
  have hparts : ∀ hi lo : BitVec 3, isLimm (hi ++ lo : BitVec 6) = true ↔ hi.toNat = 7 ∧ lo.toNat = 6 := by decide
  exact hparts _ _

/-- Scaling a byte access is not defined, with a base register (R157). -/
theorem aaFits_scaledByte {aa : BitVec 2} (haa : aa.toNat = 3)
    (hb : ¬ ((w.extractLsb' 12 3).toNat = 7 ∧ (w.extractLsb' 24 3).toNat = 6)) :
    aaFits true (fB w) (aaOf (fB w) aa) = false := by
  have hbase : isLimm (fB w) = false := Bool.eq_false_iff.2 fun h => hb ((isLimm_fB w).1 h)
  obtain rfl : aa = 3#2 := BitVec.eq_of_toNat_eq haa
  rw [aaFits, aaOf, hbase]
  rfl

theorem decodeLoad_isUndefined {zz aa : BitVec 2} {x : BitVec 1} {form : LdForm} (hdest : ldDest form = fA w)
    (hbase : form.base = fB w) (haa : form.aa = aaOf (fB w) aa)
    (h : zz.toNat = 3 ∨ (zz.toNat = 0 ∧ x.toNat = 1) ∨
      (zz.toNat = 1 ∧ aa.toNat = 3 ∧ ¬ ((w.extractLsb' 12 3).toNat = 7 ∧ (w.extractLsb' 24 3).toNat = 6)) ∨
      (fA w).toNat = 62) : (decodeLoad zz (x == 1#1) form).IsUndefined := by
  obtain hzz | ⟨hzz, hx⟩ | ⟨hzz, hmode, hb⟩ | hnull := h
  · obtain rfl : zz = 3#2 := BitVec.eq_of_toNat_eq hzz
    exact ⟨_, decodeLoad_of_error rfl form⟩
  · obtain rfl : zz = 0#2 := BitVec.eq_of_toNat_eq hzz
    obtain rfl : x = 1#1 := BitVec.eq_of_toNat_eq hx
    exact ⟨_, decodeLoad_of_error rfl form⟩
  · obtain rfl : zz = 1#2 := BitVec.eq_of_toNat_eq hzz
    refine ⟨.scaledByte, ?_⟩
    rw [decodeLoad_of_ok rfl, hbase, haa, show ((1#2 : BitVec 2) == 1#2) = true from rfl, aaFits_scaledByte hmode hb]
    rfl
  · have hlimm : isLimm (ldDest form) = true := by
      rw [hdest, isLimm, beq_iff_eq]
      exact BitVec.eq_of_toNat_eq hnull
    cases hk : ldKind zz (x == 1#1) with
    | error => exact ⟨_, decodeLoad_of_error hk form⟩
    | ok kind =>
      rw [decodeLoad_of_ok hk, hlimm]
      cases aaFits (zz == 1#2) form.base form.aa <;> exact isUndefined_undefinedForm _

/-- Sub-opcode 1 of an indexed load in its parts (R144). -/
theorem ofCode_fSub_load (h : (w.extractLsb' 19 3).toNat = 6) :
    Sub4.ofCode (fSub w).toNat = .load (w.extractLsb' 17 2) (bitAt w 16) := by
  have hsub : fSub w = 6#3 ++ w.extractLsb' 17 2 ++ w.extractLsb' 16 1 := by
    rw [← BitVec.eq_of_toNat_eq (x := w.extractLsb' 19 3) (y := 6#3) h]
    simp (disch := decide) only [BitVec.extractLsb'_append_extractLsb'_eq_extractLsb', fSub]
  rw [hsub, ofCode_load]
  rfl

theorem decode3_isUndefined (h : (w.extractLsb' 1 2).toNat = 3 ∨ ((w.extractLsb' 1 2).toNat = 1 ∧
      (w.extractLsb' 3 2).toNat = 3 ∧ ¬ ((w.extractLsb' 12 3).toNat = 7 ∧ (w.extractLsb' 24 3).toNat = 6))) :
    (decode3 w limm).IsUndefined := by
  obtain hzz | ⟨hzz, hmode, hb⟩ := h
  · refine ⟨.sizeReserved, ?_⟩
    rw [decode3, stSize, hzz]
    rfl
  · refine ⟨.scaledByte, ?_⟩
    have hfit := aaFits_scaledByte hmode hb
    simp [decode3, stSize, hzz, hfit]

/-! ### The other formats of major opcodes 4 and 5 -/

theorem decodeSop_isUndefined (op : Option SopOp) (major4 : Bool) (h : 2 ≤ (fP w).toNat) :
    (decodeSop w limm op major4).IsUndefined := by
  unfold decodeSop
  split
  case h_3 => exact isUndefined_undefinedForm _
  all_goals omega

theorem decodeLp_isUndefined (h : (fP w).toNat < 2 ∨ ((fP w).toNat = 3 ∧ (w.extractLsb' 5 1).toNat = 0)) :
    (decodeLp w).IsUndefined := by
  unfold decodeLp
  cases fF w with
  | true => exact isUndefined_undefinedForm _
  | false =>
    dsimp only [cond_false]
    split
    case h_1 => omega
    case h_2 =>
      have h5 : (w.extractLsb' 5 1).toNat = 0 := by omega
      have hbit : bitAt w 5 = false := by
        rw [bitAt, BitVec.eq_of_toNat_eq (y := 0#1) h5]
        rfl
      rw [hbit]
      exact isUndefined_undefinedForm _
    case h_3 => exact isUndefined_undefinedForm _

/-- The lower bit of the operand mode. -/
theorem fP_odd (h : (w.extractLsb' 22 1).toNat = 1) : (fP w).toNat % 2 = 1 := by
  simp only [fP, BitVec.extractLsb'_toNat] at h ⊢
  omega

theorem decodeLr_isUndefined (h : (fP w).toNat % 2 = 1) : (decodeLr w limm).IsUndefined := by
  unfold decodeLr
  split
  case h_3 => exact isUndefined_undefinedForm _
  all_goals omega

theorem decodeSr_isUndefined (h : (fP w).toNat % 2 = 1) : (decodeSr w limm).IsUndefined := by
  unfold decodeSr
  split
  case h_3 => exact isUndefined_undefinedForm _
  all_goals omega

/-- The tests need the flag-setting bit (R137). -/
theorem decode4_test_isUndefined (hsub : (fSub w).toNat ∈ [0x0B, 0x0C, 0x0D, 0x11]) (hf : (w.extractLsb' 15 1).toNat = 0) :
    (decode4 w limm).IsUndefined := by
  have hflag : fF w = false := by
    rw [fF, bitAt, BitVec.eq_of_toNat_eq (y := 0#1) hf]
    rfl
  refine ⟨.testWithoutF, ?_⟩
  simp only [List.mem_cons, List.not_mem_nil, or_false] at hsub
  obtain hsub | hsub | hsub | hsub := hsub <;> simp [decode4, Sub4.ofCode, hsub, hflag]

/-! ### The 16-bit formats -/

theorem beq_eq_false_of_toNat_ne {n : Nat} {x y : BitVec n} (h : x.toNat ≠ y.toNat) : (x == y) = false :=
  beq_false_of_ne fun he => h (congrArg BitVec.toNat he)

theorem decode18_adjustSp_isUndefined {h : Half} (hc : (hC h).toNat = 5) (hb : 2 ≤ (hB h).toNat) :
    (decode18 h).IsUndefined := by
  have h0 : (hB h).toNat ≠ 0 := by omega
  have h1 : (hB h).toNat ≠ 1 := by omega
  rw [decode18, hc, beq_eq_false_of_toNat_ne (y := 0#3) h0, beq_eq_false_of_toNat_ne (y := 1#3) h1]
  exact isUndefined_undefinedForm _

theorem decode18_popPush_isUndefined {h : Half} (hc : 6 ≤ (hC h).toNat) (hu : (hU5 h).toNat ∉ [1, 17]) :
    (decode18 h).IsUndefined := by
  obtain ⟨h1, h17⟩ : (hU5 h).toNat ≠ 1 ∧ (hU5 h).toNat ≠ 17 := by simpa using hu
  have hlt : (hC h).toNat < 8 := (hC h).isLt
  obtain hc | hc : (hC h).toNat = 6 ∨ (hC h).toNat = 7 := by omega
  all_goals
    rw [decode18, hc, beq_eq_false_of_toNat_ne (y := 1#5) h1, beq_eq_false_of_toNat_ne (y := 17#5) h17]
    exact isUndefined_undefinedForm _

end Sys2Proof
end

section
/-! What the decoder accepts, and what it refuses. -/

namespace Sys2Proof

theorem decodeHalves_of_wide {h0 h1 : Half} (limm : Word) {n : Nat} (h : (fMajor (h0 ++ h1)).toNat = n) (hn : n < 8) :
    decodeHalves h0 h1 limm = decode32 (h0 ++ h1) limm := by
  rw [decodeHalves, isWide_eq, ← fMajor_append h0 h1, h, decide_eq_true hn]
  rfl

theorem decodeHalves_of_major18 {h0 : Half} (h1 : Half) (limm : Word) (h : (h0.extractLsb' 11 5).toNat = 0x18) :
    decodeHalves h0 h1 limm = decode18 h0 := by
  rw [decodeHalves, isWide_eq, h, decode16, h]
  rfl

/-- Settles O2: the decoder is read twice, decoder by decoder, in `decodeHalves_sameFields`; the length is that of the
half-words; the refused combinations are those of the decoder they belong to. -/
theorem decoderAcceptsWellFormed : Obligations.DecoderAcceptsWellFormed := by
  refine ⟨fun h0 h1 limm i hd => ?accepts, fun i hi => ?length, ?refuses⟩
  case accepts => exact (hd ▸ decodeHalves_sameFields limm limm h0 h1).of_ok.1
  case length =>
    obtain ⟨h, rest, henc, hbase⟩ := exists_encode_cons hi
    refine ⟨h, rest, henc, ?_, (length_encode i).symm⟩
    rw [length_encode, Instr.length, hbase]
    cases i.hasLimm <;> rfl
  case refuses =>
    intro h0 h1 limm w field limmBase badLoad loadOffset loadIndexed store testNoFlags singleOperand loop auxiliary adjustSp
      popPush hbad
    have hmajor {n : Nat} (hm : field 27 5 = n) (hn : n < 8) : decodeHalves h0 h1 limm = decode32 w limm :=
      decodeHalves_of_wide limm hm hn
    have h4 (hm : field 27 5 = 4) : decodeHalves h0 h1 limm = decode4 w limm :=
      (hmajor hm (by decide)).trans (decode32_of_major4 (BitVec.eq_of_toNat_eq hm))
    have hupper (k n : Nat) : field (16 + k) n = (h0.extractLsb' k n).toNat :=
      congrArg BitVec.toNat (extractLsb'_append_upper h0 h1 k n)
    have h18 (hm : field 27 5 = 0x18) : decodeHalves h0 h1 limm = decode18 h0 :=
      decodeHalves_of_major18 h1 limm ((hupper 11 5).symm.trans hm)
    obtain ⟨hm, h⟩ | ⟨hm, hsub, h⟩ | ⟨hm, h⟩ | ⟨hm, hsub, hf⟩ | ⟨hm, hsub, hp⟩ | ⟨hm, hsub, hp⟩ | ⟨hm, hsub, hp⟩ |
      ⟨hm, hc, hb⟩ | ⟨hm, hc, hu⟩ := hbad
    · rw [hmajor hm (by decide), decode32_of_major2 (BitVec.eq_of_toNat_eq hm)]
      exact decodeLoad_isUndefined rfl rfl rfl h
    · rw [h4 hm, decode4, ofCode_fSub_load hsub]
      exact decodeLoad_isUndefined rfl rfl rfl h
    · rw [hmajor hm (by decide), decode32_of_major3 (BitVec.eq_of_toNat_eq hm)]
      exact decode3_isUndefined h
    · rw [h4 hm]
      exact decode4_test_isUndefined hsub hf
    · have hsub : (fSub w).toNat = 0x2F := hsub
      obtain hm | hm := hm
      · rw [h4 hm, decode4, hsub]
        exact decodeSop_isUndefined _ _ hp
      · rw [hmajor hm (by decide), decode32_of_major5 (BitVec.eq_of_toNat_eq hm), decode5, hsub]
        exact decodeSop_isUndefined _ _ hp
    · have hsub : (fSub w).toNat = 0x28 := hsub
      rw [h4 hm, decode4, hsub]
      exact decodeLp_isUndefined hp
    · rw [h4 hm, decode4]
      obtain hsub | hsub : field 16 6 = 0x2A ∨ field 16 6 = 0x2B := by simpa using hsub
      · rw [show (fSub w).toNat = 0x2A from hsub]
        exact decodeLr_isUndefined (fP_odd hp)
      · rw [show (fSub w).toNat = 0x2B from hsub]
        exact decodeSr_isUndefined (fP_odd hp)
    · rw [h18 hm]
      exact decode18_adjustSp_isUndefined ((hupper 5 3).symm.trans hc) (hb.trans_eq (hupper 8 3))
    · rw [h18 hm]
      exact decode18_popPush_isUndefined (hc.trans_eq (hupper 5 3)) fun hmem => hu (hupper 0 5 ▸ hmem)

end Sys2Proof
end

section
/-! Data instructions that complete, and those whose condition is false (30_encoding.md R138, R142, R173). -/

namespace Sys2Proof.Machine

variable {s : State}

/-! ### The 32-bit single-operand formats -/

theorem value1_of_src1_none {x : DataArgs} (h : x.src1 = none) (s : State) : s.value1 x = .ok 0#32 := by
  rw [State.value1, h]

/-- Settles O21: the value of V is the free one of the instruction. -/
theorem singleOperandCompletes : Obligations.SingleOperandCompletes := by
  intro op form s a hn hl ha
  have hdest : ((sopArgs form).dest == some 60#6) = (form.dest == 60#6) := by rw [sopArgs_dest]; rfl
  have hcond : s.condMet (sopArgs form).cond = true := by rw [sopArgs_cond]; rfl
  refine ⟨bitAt (s.free 3) 0, ?_⟩
  calc exec (Instr.ofSop op form) s
      = runData (.sop op) (sopArgs form) s := exec_ofShape (.sop op form) s
    _ = _ := runData_completes hn (hdest ▸ hl) hcond (value1_of_src1_none (sopArgs_src1 form) s) ha
    _ = _ := by rw [hdest, sopArgs_dest, sopArgs_setFlags]; rfl

/-! ### False conditions -/

theorem runMul_skips {sgn : Bool} {x : DataArgs} (hn : s.NoHazard x.len (some .mul64)) (hl : s.LoopReady x.len false false)
    (hc : s.condMet x.cond = false) : runMul sgn x s = .next (s.ended x.len {} s) := by
  rw [runMul, hn.start_eq, hc, cond_false, hl.retire_eq rfl rfl]

/-- Settles O25: each instruction is one of the two meanings that read and write nothing on a false condition. -/
theorem falseConditionSkips : Obligations.FalseConditionSkips := by
  refine ⟨fun op form s hn hl hc => ?_, fun op form s hn hl hc => ?_, fun sgn form s hn hl hc => ?_,
    fun form s hn hl hc => runData_skips hn hl hc, fun b s hn hl hz => ?_⟩
  · exact (exec_ofShape (.alu op form) s).trans (runData_skips hn hl hc)
  · exact (exec_ofShape (.test op form) s).trans (runData_skips hn hl hc)
  · exact (exec_ofShape (.mul sgn form) s).trans (runMul_skips hn hl hc)
  · have hc : s.condMet (some 2#5) = false := congrArg not hz
    exact (exec_ofShape (.data16 (.subNe b)) s).trans (runData_skips hn hl hc)

/-! ### The registers of the 16-bit formats (10_state.md R23) -/

theorem reg16_lt_32 (f : Reg3) : (reg16 f).toNat < 32 := by
  revert f
  decide

@[simp] theorem value_op16 (s : State) (l : Len) (slot : Nat) (f : Reg3) :
    s.value l slot (op16 f) = .ok (s.reg (reg16 f).toNat) :=
  readCore_of_lt_32 s l slot _ (reg16_lt_32 f)

theorem writeCore_reg16 (s : State) (f : Reg3) (v : Word) : s.writeCore (reg16 f) v = s.setReg (reg16 f).toNat v :=
  writeCore_of_lt_32 s v (reg16_lt_32 f)

/-- No register of a 3-bit field is LP_COUNT. -/
theorem reg16_beq_60 (f : Reg3) : (reg16 f == 60#6) = false := by
  revert f
  decide

/-- No register of a 3-bit field is a multiply result. -/
theorem isMul_op16 (cfg : Config) (f : Reg3) : (op16 f).isMul cfg = false := by
  have hne : ∀ f : Reg3, (reg16 f == 57#6 || reg16 f == 58#6 || reg16 f == 59#6) = false := by decide
  rw [op16, Operand.isMul, isMulReg, hne f, Bool.and_false]

@[simp] theorem afterReads_op16 (s : State) (f : Reg3) (os : List Operand) : s.afterReads (op16 f :: os) = s.afterReads os := by
  rw [State.afterReads, List.any_cons, isMul_op16, Bool.false_or]
  rfl

@[simp] theorem afterReads_imm (s : State) (w : Word) (os : List Operand) : s.afterReads (.imm w :: os) = s.afterReads os :=
  rfl

@[simp] theorem afterReads_nil (s : State) : s.afterReads [] = s := rfl

/-! ### The 16-bit data formats -/

/-- A data format that sets no flags writes its destination alone. -/
theorem runData_completes_dest {op : DataOp} {x : DataArgs} {a b : Word} {r : Reg} (hd : x.dest = some r)
    (hf : x.setFlags = false) (hn : s.NoHazard x.len (dataNeeds op)) (hl : s.LoopReady x.len (r == 60#6) false)
    (hc : s.condMet x.cond = true) (ha : s.value1 x = .ok a) (hb : s.value x.len 1 x.src2 = .ok b) :
    runData op x s = .next (s.ended x.len { wroteLpCount := r == 60#6 }
      ((s.afterReads x.sources).writeCore r (dataEval op s.flags (bitAt (s.free 3) 0) a b).1)) := by
  have h60 : (x.dest == some 60#6) = (r == 60#6) := by rw [hd]; rfl
  have hkeep {t : State} (ht : t.flags = s.flags) : { t with flags := s.flags } = t := by rw [← ht]
  rw [runData_completes hn (h60 ▸ hl) hc ha hb, h60, hf, hd, State.writeDest, if_neg Bool.false_ne_true,
    hkeep (by rw [writeCore_flags, afterReads_flags])]

/-- The same with a 3-bit destination field. -/
theorem runData_completes_reg16 {op : DataOp} {x : DataArgs} {a b : Word} {f : Reg3} (hd : x.dest = some (reg16 f))
    (hf : x.setFlags = false) (hn : s.NoHazard x.len (dataNeeds op)) (hl : s.LoopReady x.len false false)
    (hc : s.condMet x.cond = true) (ha : s.value1 x = .ok a) (hb : s.value x.len 1 x.src2 = .ok b) :
    runData op x s = .next (s.ended x.len {}
      ((s.afterReads x.sources).setReg (reg16 f).toNat (dataEval op s.flags (bitAt (s.free 3) 0) a b).1)) := by
  rw [← writeCore_reg16, runData_completes_dest hd hf hn ((reg16_beq_60 f).symm ▸ hl) hc ha hb, reg16_beq_60]

/-- A data format that only sets flags. -/
theorem runData_completes_flags {op : DataOp} {x : DataArgs} {a b : Word} (hd : x.dest = none) (hf : x.setFlags = true)
    (hn : s.NoHazard x.len (dataNeeds op)) (hl : s.LoopReady x.len false false) (hc : s.condMet x.cond = true)
    (ha : s.value1 x = .ok a) (hb : s.value x.len 1 x.src2 = .ok b) :
    runData op x s = .next (s.ended x.len {}
      { s.afterReads x.sources with flags := (dataEval op s.flags (bitAt (s.free 3) 0) a b).2 }) := by
  have h60 : (x.dest == some 60#6) = false := by rw [hd]; rfl
  rw [runData_completes hn (h60.symm ▸ hl) hc ha hb, h60, hf, hd]
  rfl

theorem aluEval_add_fst (f : Flags) (a b : Word) : (aluEval .add f a b).1 = a + b := by
  simp [aluEval, addFlags]

/-! ### Single bits (41_logic_move_bit.md R300, R302) -/

theorem bitMask_uimm (u : BitVec 5) : bitMask (uimm u 0) = BitVec.twoPow 32 u.toNat := by
  have hcount : count5 (uimm u 0) = u.toNat := by simpa [count5, uimm] using u.isLt
  rw [bitMask, hcount]
  rfl

theorem znOf_snd (f : Flags) (res : Word) : (znOf f res).2 = ⟨res == 0#32, res.getLsbD 31, f.c, f.v⟩ := by
  rw [znOf, isZero, isNeg, BitVec.msb_eq_getLsbD_last]

/-- The flags of a test of one bit. -/
theorem znOf_and_twoPow (f : Flags) (y : Word) {n : Nat} (hn : n < 32) :
    (znOf f (y &&& BitVec.twoPow 32 n)).2 = ⟨!y.getLsbD n, decide (n = 31) && y.getLsbD 31, f.c, f.v⟩ := by
  have hz : (y &&& BitVec.twoPow 32 n == 0#32) = !y.getLsbD n := by
    have hne : BitVec.twoPow 32 n ≠ 0#32 := fun h => by simpa [hn] using congrArg (BitVec.getLsbD · n) h
    rw [BitVec.and_twoPow]
    cases y.getLsbD n with
    | true => exact beq_false_of_ne hne
    | false => rfl
  have hneg : (y &&& BitVec.twoPow 32 n).getLsbD 31 = (decide (n = 31) && y.getLsbD 31) := by
    rw [BitVec.getLsbD_and, BitVec.getLsbD_twoPow, Bool.and_comm]
    have hle : decide (n < 32) = true := decide_eq_true hn
    rw [hle, Bool.true_and, Bool.decide_congr eq_comm]
  rw [znOf_snd, hz, hneg]

/-- Settles O28: the formats with a 3-bit destination, the one whose destination is the high register, and the tests. -/
theorem highRegisterAndTest16Completes : Obligations.HighRegisterAndTest16Completes := by
  refine ⟨?high, ?tests⟩
  case high =>
    intro s b h limm l y done
    refine ⟨fun v hv hn hl => ⟨?add, ?mov, ?cmp⟩, fun hn hl => ?movTo⟩
    case add =>
      calc exec (.add_s_bbh b h limm) s
          = runData (.alu .add) (Data16.addBbh b h limm).args s := exec_ofShape (.data16 (.addBbh b h limm)) s
        _ = done ((s.afterReads [op16 b, .reg h limm]).setReg y (aluEval .add s.flags (s.reg y) v).1) :=
          runData_completes_reg16 rfl rfl hn hl rfl (value_op16 s l 0 b) hv
        _ = _ := by rw [afterReads_op16, aluEval_add_fst]
    case mov =>
      exact (exec_ofShape (.data16 (.movBh b h limm)) s).trans (runData_completes_reg16 rfl rfl hn hl rfl rfl hv)
    case cmp =>
      calc exec (.cmp_s_bh b h limm) s
          = runData (.test .cmp) (Data16.cmpBh b h limm).args s := exec_ofShape (.data16 (.cmpBh b h limm)) s
        _ = done { s.afterReads [op16 b, .reg h limm] with flags := testEval .cmp s.flags (s.reg y) v } :=
          runData_completes_flags rfl rfl hn hl rfl (value_op16 s l 0 b) hv
        _ = _ := by rw [afterReads_op16]; rfl
    case movTo =>
      calc exec (.mov_s_hb h b) s
          = runData .mov (Data16.movHb h b).args s := exec_ofShape (.data16 (.movHb h b)) s
        _ = .next (s.ended len16 { wroteLpCount := h == 60#6 } ((s.afterReads [op16 b]).writeCore h (s.reg y))) :=
          runData_completes_dest (x := (Data16.movHb h b).args) rfl rfl hn hl rfl rfl (value_op16 s len16 1 b)
        _ = _ := by rw [afterReads_op16, afterReads_nil]
  case tests =>
    intro s b c u5 u7 hn hl y z done
    refine ⟨?cmpU7, ?tst, ?btst⟩
    case cmpU7 =>
      calc exec (.cmp_s_bu7 b u7) s
          = runData (.test .cmp) (Data16.cmpU7 b u7).args s := exec_ofShape (.data16 (.cmpU7 b u7)) s
        _ = .next (s.ended len16 {} { s.afterReads [op16 b, .imm (uimm u7 0)] with
              flags := testEval .cmp s.flags y (uimm u7 0) }) :=
          runData_completes_flags rfl rfl hn hl rfl (value_op16 s len16 0 b) rfl
        _ = done (aluEval .sub s.flags y (u7.setWidth 32)).2 := by
          rw [afterReads_op16, afterReads_imm, afterReads_nil, uimm, BitVec.shiftLeft_zero]
          rfl
    case tst =>
      calc exec (.tst_s_bc b c) s
          = runData (.test .tst) (Data16.tst b c).args s := exec_ofShape (.data16 (.tst b c)) s
        _ = .next (s.ended len16 {} { s.afterReads [op16 b, op16 c] with flags := (znOf s.flags (y &&& z)).2 }) :=
          runData_completes_flags rfl rfl hn hl rfl (value_op16 s len16 0 b) (value_op16 s len16 1 c)
        _ = _ := by rw [afterReads_op16, afterReads_op16, afterReads_nil, znOf_snd]
    case btst =>
      calc exec (.btst_s_bu5 b u5) s
          = runData (.test .btst) (Data16.btst b u5).args s := exec_ofShape (.data16 (.btst b u5)) s
        _ = .next (s.ended len16 {} { s.afterReads [op16 b, .imm (uimm u5 0)] with
              flags := (znOf s.flags (y &&& bitMask (uimm u5 0))).2 }) :=
          runData_completes_flags rfl rfl hn hl rfl (value_op16 s len16 0 b) rfl
        _ = _ := by rw [afterReads_op16, afterReads_imm, afterReads_nil, bitMask_uimm, znOf_and_twoPow s.flags y u5.isLt]

end Sys2Proof.Machine
end

section
/-! Integer arithmetic: the flag functions of 00_scope.md R9 over integers, and with them the additions and subtractions
(40_alu_arith.md R221 to R235), MAX and MIN (R240, R241) and ABS (R245). -/

namespace Sys2Proof.Machine

/-! ### The flag functions over integers -/

theorem isZero_iff (r : Word) : isZero r = true ↔ r = 0#32 := beq_iff_eq

theorem isNeg_iff (r : Word) : isNeg r = true ↔ r.toInt < 0 := by
  rw [isNeg, BitVec.msb_eq_toInt, decide_eq_true_iff]

theorem toInt_range (x : Word) : -2 ^ 31 ≤ x.toInt ∧ x.toInt < 2 ^ 31 := ⟨BitVec.le_toInt x, BitVec.toInt_lt⟩

/-- Overflow of an addition is that the signed sum does not fit. -/
theorem ovfAdd_iff {x y r : Word} {c : Nat} (hc : c ≤ 1) (hr : r.toInt = (x.toInt + y.toInt + c).bmod (2 ^ 32)) :
    ovfAdd x y r = true ↔ r.toInt ≠ x.toInt + y.toInt + c := by
  have hx := toInt_range x
  have hy := toInt_range y
  rw [Int.bmod_def] at hr
  simp only [ovfAdd, BitVec.msb_eq_toInt, Bool.or_eq_true, Bool.and_eq_true, Bool.not_eq_true', decide_eq_true_eq,
    decide_eq_false_iff_not]
  omega

/-- Overflow of a subtraction is that the signed difference does not fit. -/
theorem ovfSub_iff {x y r : Word} {c : Nat} (hc : c ≤ 1) (hr : r.toInt = (x.toInt - y.toInt - c).bmod (2 ^ 32)) :
    ovfSub x y r = true ↔ r.toInt ≠ x.toInt - y.toInt - c := by
  have hx := toInt_range x
  have hy := toInt_range y
  rw [Int.bmod_def] at hr
  simp only [ovfSub, BitVec.msb_eq_toInt, Bool.or_eq_true, Bool.and_eq_true, Bool.not_eq_true', decide_eq_true_eq,
    decide_eq_false_iff_not]
  omega

/-! ### Additions and subtractions -/

theorem addFlags_toNat (x y : Word) (c : Bool) : (addFlags x y c).1.toNat = (x.toNat + y.toNat + c.toNat) % 2 ^ 32 := by
  simp [addFlags]

theorem addFlags_toInt (x y : Word) (c : Bool) :
    (addFlags x y c).1.toInt = (x.toInt + y.toInt + c.toNat).bmod (2 ^ 32) := by
  simp [addFlags]

theorem subFlags_toInt (x y : Word) (c : Bool) :
    (subFlags x y c).1.toInt = (x.toInt - y.toInt - c.toNat).bmod (2 ^ 32) := by
  simp [subFlags]

theorem addFlags_false_fst (x y : Word) : (addFlags x y false).1 = x + y := BitVec.add_zero _

theorem subFlags_false_fst (x y : Word) : (subFlags x y false).1 = x - y := BitVec.sub_zero _

/-- The result and the flags of an addition with carry in. -/
theorem addFlags_spec (x y : Word) (c : Bool) :
    (addFlags x y c).1.toNat = (x.toNat + y.toNat + c.toNat) % 2 ^ 32 ∧
    ((addFlags x y c).2.z = true ↔ (addFlags x y c).1 = 0#32) ∧
    ((addFlags x y c).2.n = true ↔ (addFlags x y c).1.toInt < 0) ∧
    ((addFlags x y c).2.c = true ↔ 2 ^ 32 ≤ x.toNat + y.toNat + c.toNat) ∧
    ((addFlags x y c).2.v = true ↔ (addFlags x y c).1.toInt ≠ x.toInt + y.toInt + c.toNat) :=
  ⟨addFlags_toNat x y c, isZero_iff _, isNeg_iff _, decide_eq_true_iff, ovfAdd_iff c.toNat_le (addFlags_toInt x y c)⟩

/-- The result and the flags of a subtraction with borrow in. -/
theorem subFlags_spec (x y : Word) (c : Bool) :
    (subFlags x y c).1.toInt = (x.toInt - y.toInt - c.toNat).bmod (2 ^ 32) ∧
    ((subFlags x y c).2.z = true ↔ (subFlags x y c).1 = 0#32) ∧
    ((subFlags x y c).2.n = true ↔ (subFlags x y c).1.toInt < 0) ∧
    ((subFlags x y c).2.c = true ↔ x.toNat < y.toNat + c.toNat) ∧
    ((subFlags x y c).2.v = true ↔ (subFlags x y c).1.toInt ≠ x.toInt - y.toInt - c.toNat) :=
  ⟨subFlags_toInt x y c, isZero_iff _, isNeg_iff _, decide_eq_true_iff, ovfSub_iff c.toNat_le (subFlags_toInt x y c)⟩

/-! ### The scaled forms (40_alu_arith.md R230 to R235) -/

theorem aluEval_add1 (f : Flags) (a b : Word) : aluEval .add1 f a b = addFlags a (b * 2) false :=
  congrArg (addFlags a · false) (BitVec.shiftLeft_eq_mul_twoPow b 1)

theorem aluEval_add2 (f : Flags) (a b : Word) : aluEval .add2 f a b = addFlags a (b * 4) false :=
  congrArg (addFlags a · false) (BitVec.shiftLeft_eq_mul_twoPow b 2)

theorem aluEval_add3 (f : Flags) (a b : Word) : aluEval .add3 f a b = addFlags a (b * 8) false :=
  congrArg (addFlags a · false) (BitVec.shiftLeft_eq_mul_twoPow b 3)

theorem aluEval_sub1 (f : Flags) (a b : Word) : aluEval .sub1 f a b = subFlags a (b * 2) false :=
  congrArg (subFlags a · false) (BitVec.shiftLeft_eq_mul_twoPow b 1)

theorem aluEval_sub2 (f : Flags) (a b : Word) : aluEval .sub2 f a b = subFlags a (b * 4) false :=
  congrArg (subFlags a · false) (BitVec.shiftLeft_eq_mul_twoPow b 2)

theorem aluEval_sub3 (f : Flags) (a b : Word) : aluEval .sub3 f a b = subFlags a (b * 8) false :=
  congrArg (subFlags a · false) (BitVec.shiftLeft_eq_mul_twoPow b 3)

/-- Settles O12: each operation is an addition or a subtraction of its operands, scaled or exchanged. -/
theorem addSubResults : Obligations.AddSubResults := by
  intro f a b isSum isDiff
  have hsum : ∀ (x y : Word) (c : Bool), isSum (addFlags x y c) x y c.toNat := addFlags_spec
  have hdiff : ∀ (x y : Word) (c : Bool), isDiff (subFlags x y c) x y c.toNat := subFlags_spec
  rw [aluEval_add1, aluEval_add2, aluEval_add3, aluEval_sub1, aluEval_sub2, aluEval_sub3]
  exact ⟨hsum a b false, hsum a b f.c, hdiff a b false, hdiff a b f.c, hdiff b a false, hsum _ _ false, hsum _ _ false,
    hsum _ _ false, hdiff _ _ false, hdiff _ _ false, hdiff _ _ false⟩

/-! ### MAX, MIN and ABS -/

theorem maxFlags_toInt (a b : Word) : (maxFlags a b).1.toInt = max a.toInt b.toInt := by
  rw [maxFlags, BitVec.sle_eq_decide, max_def, Bool.cond_decide, apply_ite BitVec.toInt]

theorem minFlags_toInt (a b : Word) : (minFlags a b).1.toInt = min a.toInt b.toInt := by
  rw [minFlags, BitVec.sle_eq_decide, min_comm, min_def, Bool.cond_decide, apply_ite BitVec.toInt]

/-- Overflow of a difference without borrow in. -/
theorem ovfSub_sub_iff (a b : Word) : ovfSub a b (a - b) = true ↔ (a - b).toInt ≠ a.toInt - b.toInt := by
  have hdiff : (a - b).toInt = (a.toInt - b.toInt - (0 : Nat)).bmod (2 ^ 32) := by
    rw [Nat.cast_zero, Int.sub_zero, BitVec.toInt_sub]
  simpa using ovfSub_iff zero_le_one hdiff

theorem absFlags_fst (a : Word) : (absFlags a).1 = a.abs := by
  rw [absFlags, BitVec.abs_eq, BitVec.zero_sub, cond_eq_ite]

theorem abs_eq_zero_iff (a : Word) : a.abs = 0#32 ↔ a = 0#32 := by
  rw [BitVec.abs_eq]
  split
  · exact BitVec.neg_eq_zero_iff
  · rfl

/-- Settles O13: MAX and MIN select by the signed order and take their flags from the difference; ABS is the absolute value of
the word. -/
theorem maxMinAbsResults : Obligations.MaxMinAbsResults := by
  intro f a b v
  refine ⟨maxFlags_toInt a b, minFlags_toInt a b, BitVec.sle_iff_toInt_le, BitVec.sle_iff_toInt_le, ?flags, fun ha => ?abs,
    rfl, ?absZ, beq_iff_eq, isNeg_iff a, beq_iff_eq⟩
  case flags =>
    rintro op (rfl | rfl) <;> exact ⟨beq_iff_eq, isNeg_iff (a - b), ovfSub_sub_iff a b⟩
  case abs =>
    calc (absFlags a).1.toInt
        = a.abs.toInt := by rw [absFlags_fst]
      _ = a.toInt.natAbs := BitVec.toInt_abs_eq_natAbs_of_ne_intMin ha
      _ = |a.toInt| := (Int.abs_eq_natAbs a.toInt).symm
  case absZ =>
    calc isZero (absFlags a).1 = true
        ↔ a.abs = 0#32 := by rw [isZero_iff, absFlags_fst]
      _ ↔ a = 0#32 := abs_eq_zero_iff a

end Sys2Proof.Machine
end

section
/-! The data instructions of 40_alu_arith.md complete: the 32-bit formats with two operands (R220, R226, R227), and the 16-bit
arithmetic (R229). -/

namespace Sys2Proof.Machine

variable {s : State}

/-! ### The 32-bit formats -/

/-- Settles O11: the format writes its destination, and its flags when F = 1. -/
theorem aluCompletes : Obligations.AluCompletes := by
  intro op form s a b hn hl hc ha hb
  have hdest : ((genArgs form).dest == some 60#6) = (form.dest == 60#6) := congrArg (· == some 60#6) (genArgs_dest form)
  calc exec (Instr.ofAlu op form) s
      = runData (.alu op) (genArgs form) s := exec_ofShape (.alu op form) s
    _ = _ := runData_completes hn (hdest ▸ hl) hc ha hb
    _ = _ := by rw [hdest, genArgs_dest, genArgs_setFlags]; rfl

theorem count5_eq_mod (b : Word) : count5 b = b.toNat % 32 := by
  rw [count5, BitVec.extractLsb'_toNat, Nat.shiftRight_zero]

theorem bitMask_eq_twoPow (b : Word) : bitMask b = BitVec.twoPow 32 (b.toNat % 32) := by
  rw [bitMask, count5_eq_mod, BitVec.twoPow]

/-- The flags of BTST are those of the single bit (41_logic_move_bit.md R302). -/
theorem testEval_btst (f : Flags) (a b : Word) : testEval .btst f a b =
    ⟨!a.getLsbD (b.toNat % 32), decide (b.toNat % 32 = 31) && a.getLsbD 31, f.c, f.v⟩ := by
  rw [testEval, bitMask_eq_twoPow, znOf_and_twoPow f a (Nat.mod_lt _ (by decide))]

/-- Settles O16: the format writes the flags alone, and BTST has those of one bit. -/
theorem testCompletes : Obligations.TestCompletes := by
  intro op form s a b hn hl hc ha hb
  calc exec (Instr.ofTest op form) s
      = runData (.test op) (cmpArgs form) s := exec_ofShape (.test op form) s
    _ = .next (s.ended (cmpArgs form).len {} { s.afterReads (cmpArgs form).sources with flags := testEval op s.flags a b }) :=
      runData_completes_flags (cmpArgs_dest form) (cmpArgs_setFlags form) hn hl hc ha hb
    _ = _ := by
      cases op with
      | btst => rw [testEval_btst]
      | tst | cmp | rcmp => rfl

/-! ### The operands of the 16-bit formats -/

/-- Reading the operand gives the value, wherever it stands in the instruction, and has no effect. -/
structure State.Reads (s : State) (o : Operand) (v : Word) : Prop where
  value : ∀ l slot, s.value l slot o = .ok v
  afterReads : ∀ os, s.afterReads (o :: os) = s.afterReads os

theorem reads_op16 (s : State) (f : Reg3) : s.Reads (op16 f) (s.reg (reg16 f).toNat) :=
  ⟨fun l slot => value_op16 s l slot f, afterReads_op16 s f⟩

theorem reads_imm (s : State) (w : Word) : s.Reads (.imm w) w :=
  ⟨fun _ _ => rfl, afterReads_imm s w⟩

/-- A core register below r32: how the formats read SP and GP, which no 3-bit field names. -/
theorem reads_reg (s : State) {r : Reg} (limm : Word) (hr : r.toNat < 32) : s.Reads (.reg r limm) (s.reg r.toNat) := by
  have hne (n : Reg) (hn : 32 ≤ n.toNat) : (r == n) = false := beq_false_of_ne fun h => absurd (h ▸ hr) (Nat.not_lt.2 hn)
  have hmul : isMulReg s.cfg r = false := by
    rw [isMulReg, hne 57#6 (by decide), hne 58#6 (by decide), hne 59#6 (by decide)]
    exact Bool.and_false _
  refine ⟨fun l slot => readCore_of_lt_32 s l slot limm hr, fun os => ?_⟩
  rw [State.afterReads, List.any_cons, Operand.isMul, hmul, Bool.false_or]
  rfl

theorem uimm_zero {w : Nat} (u : BitVec w) : uimm u 0 = u.setWidth 32 := BitVec.shiftLeft_zero _

theorem uimm_two {w : Nat} (u : BitVec w) : uimm u 2 = 4 * u.setWidth 32 := by
  rw [uimm, BitVec.shiftLeft_eq_mul_twoPow, BitVec.mul_comm]
  rfl

theorem simm_two {w : Nat} (d : BitVec w) : simm d 2 = 4 * d.signExtend 32 := by
  rw [simm, BitVec.shiftLeft_eq_mul_twoPow, BitVec.mul_comm]
  rfl

theorem reads_uimm_zero (s : State) {w : Nat} (u : BitVec w) : s.Reads (.imm (uimm u 0)) (u.setWidth 32) := by
  rw [← uimm_zero]
  exact reads_imm s _

theorem reads_uimm_two (s : State) {w : Nat} (u : BitVec w) : s.Reads (.imm (uimm u 2)) (4 * u.setWidth 32) := by
  rw [← uimm_two]
  exact reads_imm s _

theorem reads_simm_two (s : State) {w : Nat} (d : BitVec w) : s.Reads (.imm (simm d 2)) (4 * d.signExtend 32) := by
  rw [← simm_two]
  exact reads_imm s _

/-! ### The 16-bit formats -/

/-- A data format whose operands read without effect and whose destination is no special register writes that alone. -/
theorem runData_completes_of_lt_32 {op : DataOp} {x : DataArgs} {a b v : Word} {r : Reg} (hd : x.dest = some r)
    (hr : r.toNat < 32) (hf : x.setFlags = false) (hn : s.NoHazard x.len (dataNeeds op)) (hl : s.LoopReady x.len false false)
    (hc : s.condMet x.cond = true) (ha : s.value1 x = .ok a) (hb : s.Reads x.src2 b) (hs : s.afterReads x.sources = s)
    (hv : ∀ fv, (dataEval op s.flags fv a b).1 = v) : runData op x s = .next (s.ended x.len {} (s.setReg r.toNat v)) := by
  have h60 : (r == 60#6) = false := beq_false_of_ne fun h => absurd (h ▸ hr) (by decide)
  rw [runData_completes_dest hd hf hn (h60.symm ▸ hl) hc ha (hb.value x.len 1), h60, hs, hv, writeCore_of_lt_32 s v hr]

/-- A 16-bit format with two sources. -/
theorem exec_data16_binary (form : Data16) {r : Reg} {o₁ o₂ : Operand} {a b v : Word}
    (hargs : form.args = args16 r (some o₁) o₂) (hr : r.toNat < 32) (ha : s.Reads o₁ a) (hb : s.Reads o₂ b)
    (hn : s.NoHazard len16 (dataNeeds form.op)) (hl : s.LoopReady len16 false false)
    (hv : ∀ fv, (dataEval form.op s.flags fv a b).1 = v) :
    exec (Instr.ofShape (.data16 form)) s = .next (s.ended len16 {} (s.setReg r.toNat v)) := by
  have hs : s.afterReads [o₁, o₂] = s := by rw [ha.afterReads, hb.afterReads, afterReads_nil]
  rw [exec_ofShape, Shape.run, hargs]
  exact runData_completes_of_lt_32 rfl hr rfl hn hl rfl (ha.value len16 0) hb hs hv

/-- A 16-bit format with one source, and perhaps a condition that holds. -/
theorem exec_data16_unary (form : Data16) {r : Reg} {o : Operand} {q : Option (BitVec 5)} {b v : Word}
    (hargs : form.args = { args16 r none o with cond := q }) (hr : r.toNat < 32) (hc : s.condMet q = true) (hb : s.Reads o b)
    (hn : s.NoHazard len16 (dataNeeds form.op)) (hl : s.LoopReady len16 false false)
    (hv : ∀ fv, (dataEval form.op s.flags fv 0#32 b).1 = v) :
    exec (Instr.ofShape (.data16 form)) s = .next (s.ended len16 {} (s.setReg r.toNat v)) := by
  rw [exec_ofShape, Shape.run, hargs]
  exact runData_completes_of_lt_32 rfl hr rfl hn hl hc rfl hb (hb.afterReads []) hv

theorem sopEval_abs_fst (f : Flags) (fv : Bool) (a : Word) :
    (sopEval .abs f fv a).1 = if a.toInt < 0 then 0#32 - a else a := by
  rw [sopEval, absFlags, BitVec.msb_eq_toInt, Bool.cond_decide]

/-- Settles O26: every form is one of two sources or of one, with the result of its operation. -/
theorem arith16Completes : Obligations.Arith16Completes := by
  intro s a b c u3 u5 u7 s9 hn hl x y z done
  have add (p q : Word) (fv : Bool) : (dataEval (.alu .add) s.flags fv p q).1 = p + q := addFlags_false_fst p q
  have sub (p q : Word) (fv : Bool) : (dataEval (.alu .sub) s.flags fv p q).1 = p - q := subFlags_false_fst p q
  have scaled {op : AluOp} {p q k : Word} (hop : aluEval op s.flags p q = addFlags p (q * k) false) (fv : Bool) :
      (dataEval (.alu op) s.flags fv p q).1 = p + k * q := by
    rw [dataEval, hop, addFlags_false_fst, BitVec.mul_comm]
  have hreg := reads_op16 s
  have hu3 := reads_uimm_zero s u3
  have hu5 := reads_uimm_zero s u5
  have hu7 := reads_uimm_zero s u7
  have hu5x4 := reads_uimm_two s u5
  have hs9x4 := reads_simm_two s s9
  have hsp : s.Reads (.reg rSP 0#32) (s.reg 28) := reads_reg s 0#32 (by decide)
  have hgp : s.Reads (.reg rGP 0#32) (s.reg 26) := reads_reg s 0#32 (by decide)
  exact ⟨exec_data16_binary (.addAbc a b c) rfl (reg16_lt_32 a) (hreg b) (hreg c) hn hl (add _ _),
    exec_data16_binary (.cbu3 .add c b u3) rfl (reg16_lt_32 c) (hreg b) hu3 hn hl (add _ _),
    exec_data16_binary (.cbu3 .sub c b u3) rfl (reg16_lt_32 c) (hreg b) hu3 hn hl (sub _ _),
    exec_data16_binary (.bbc .sub b c) rfl (reg16_lt_32 b) (hreg b) (hreg c) hn hl (sub _ _),
    exec_data16_binary (.bbu5 .sub b u5) rfl (reg16_lt_32 b) (hreg b) hu5 hn hl (sub _ _),
    exec_data16_binary (.bbc .add1 b c) rfl (reg16_lt_32 b) (hreg b) (hreg c) hn hl (scaled (aluEval_add1 _ _ _)),
    exec_data16_binary (.bbc .add2 b c) rfl (reg16_lt_32 b) (hreg b) (hreg c) hn hl (scaled (aluEval_add2 _ _ _)),
    exec_data16_binary (.bbc .add3 b c) rfl (reg16_lt_32 b) (hreg b) (hreg c) hn hl (scaled (aluEval_add3 _ _ _)),
    exec_data16_binary (.addSp b u5) rfl (reg16_lt_32 b) hsp hu5x4 hn hl (add _ _),
    exec_data16_binary (.adjSp false u5) (r := rSP) rfl (by decide) hsp hu5x4 hn hl (add _ _),
    exec_data16_binary (.adjSp true u5) (r := rSP) rfl (by decide) hsp hu5x4 hn hl (sub _ _),
    exec_data16_binary (.addGp s9) (r := 0#6) rfl (by decide) hgp hs9x4 hn hl (add _ _),
    exec_data16_binary (.addU7 b u7) rfl (reg16_lt_32 b) (hreg b) hu7 hn hl (add _ _),
    exec_data16_binary (.bc .neg b c) rfl (reg16_lt_32 b) (reads_imm s _) (hreg c) hn hl (sub _ _),
    exec_data16_unary (.bc .abs b c) rfl (reg16_lt_32 b) rfl (hreg c) hn hl fun fv => sopEval_abs_fst s.flags fv _,
    fun hz => exec_data16_unary (.subNe b) rfl (reg16_lt_32 b) (congrArg not hz) (reads_imm s _) hn hl fun _ => rfl⟩

end Sys2Proof.Machine
end

section
/-! Logic, moves and bits, and the 16-bit shifts: results bit by bit (41_logic_move_bit.md R281 to R286, R300 to R304), MOV
(R290), and the 16-bit forms (R310 to R313; 42_shift_rotate.md R331 to R333, R340 to R342). -/

namespace Sys2Proof.Machine

variable {s : State}

/-! ### The masks of the bit instructions (41_logic_move_bit.md R300, R304) -/

theorem getLsbD_bitMask (b : Word) (i : Nat) : (bitMask b).getLsbD i = decide (i = b.toNat % 32) := by
  have hlt : decide (b.toNat % 32 < 32) = true := decide_eq_true (Nat.mod_lt _ (by decide))
  rw [bitMask_eq_twoPow, BitVec.getLsbD_twoPow, hlt, Bool.true_and, Bool.decide_congr eq_comm]

theorem getLsbD_lowMask (b : Word) {i : Nat} (hi : i < 32) : (lowMask b).getLsbD i = decide (i ≤ b.toNat % 32) := by
  rw [lowMask, count5_eq_mod, BitVec.getLsbD_ofNat, decide_eq_true hi, Bool.true_and, Nat.testBit_two_pow_sub_one,
    Bool.decide_congr Nat.lt_succ_iff]

/-- BMSK keeps the low part of the word. -/
theorem and_lowMask (a b : Word) : a &&& lowMask b = BitVec.ofNat 32 (a.toNat % 2 ^ (count5 b + 1)) := by
  rw [lowMask, ← Nat.and_two_pow_sub_one_eq_mod, BitVec.ofNat_and, BitVec.ofNat_toNat, BitVec.setWidth_eq]

/-- Settles O14: every operation leaves its result to `znOf`, and the masks are told bit by bit. -/
theorem logicBitResults : Obligations.LogicBitResults := by
  intro f a b i hi k
  have hnot (m : Word) : (~~~m).getLsbD i = !m.getLsbD i := by rw [BitVec.getLsbD_not, decide_eq_true hi, Bool.true_and]
  have hone : (bitMask b).getLsbD i = decide (i = k) := getLsbD_bitMask b i
  have hlow : (lowMask b).getLsbD i = decide (i ≤ k) := getLsbD_lowMask b hi
  refine ⟨BitVec.getLsbD_and, BitVec.getLsbD_or, ?bic, ?xor, ?bset, ?bclr, ?bxor, ?bmsk, ?flags⟩
  case bic => exact BitVec.getLsbD_and.trans (congrArg (a.getLsbD i && ·) (hnot b))
  case xor => exact BitVec.getLsbD_xor
  case bset => exact BitVec.getLsbD_or.trans (congrArg (a.getLsbD i || ·) hone)
  case bclr =>
    calc (a &&& ~~~bitMask b).getLsbD i
        = (a.getLsbD i && !decide (i = k)) := by rw [BitVec.getLsbD_and, hnot, hone]
      _ = (a.getLsbD i && decide (i ≠ k)) := by rw [decide_not]
  case bxor => exact BitVec.getLsbD_xor.trans (congrArg (a.getLsbD i != ·) hone)
  case bmsk => exact BitVec.getLsbD_and.trans (congrArg (a.getLsbD i && ·) hlow)
  case flags =>
    intro op hop
    fin_cases hop <;> exact znOf_snd f _

/-- Settles O20: MOV takes its value from its one source, and its flags are those of that value. -/
theorem movCompletes : Obligations.MovCompletes := by
  intro form s v hn hl hc hv
  have hdest : ((movArgs form).dest == some 60#6) = (form.dest == 60#6) := congrArg (· == some 60#6) (movArgs_dest form)
  calc exec (.mov form) s
      = runData .mov (movArgs form) s := exec_ofShape (.mov form) s
    _ = _ := runData_completes hn (hdest ▸ hl) hc (value1_of_src1_none (movArgs_src1 form) s) hv
    _ = _ := by rw [hdest, movArgs_dest, movArgs_setFlags, dataEval, znOf_snd]; rfl

/-! ### The results of the 16-bit forms -/

/-- The count of a form with an immediate is the immediate. -/
theorem count5_uimm {w : Nat} (hw : w ≤ 5) (u : BitVec w) : count5 (uimm u 0) = u.toNat := by
  have hlt : u.toNat < 32 := u.isLt.trans_le (Nat.pow_le_pow_right (n := 2) Nat.two_pos hw)
  rw [count5_eq_mod, uimm_zero, BitVec.toNat_setWidth, Nat.mod_eq_of_lt (hlt.trans (by decide)), Nat.mod_eq_of_lt hlt]

theorem signExtend_extractLsb' (a : Word) {n : Nat} (hn : n ≤ 32) :
    (a.extractLsb' 0 n).signExtend 32 = BitVec.ofInt 32 (a.toInt.bmod (2 ^ n)) := by
  have htoInt : (a.signExtend n).toInt = a.toInt.bmod (2 ^ n) := by rw [BitVec.toInt_signExtend, Nat.min_eq_left hn]
  rw [← BitVec.setWidth_eq_extractLsb' hn, ← BitVec.signExtend_eq_setWidth_of_le a hn, ← htoInt,
    ← BitVec.toInt_signExtend_of_le hn, BitVec.ofInt_toInt]

theorem setWidth_extractLsb' (a : Word) (n : Nat) :
    (a.extractLsb' 0 n).setWidth 32 = BitVec.ofNat 32 (a.toNat % 2 ^ n) := by
  rw [← BitVec.ofNat_toNat, BitVec.extractLsb'_toNat, Nat.shiftRight_zero]

/-- ASL by one is the sum of the source with itself (42_shift_rotate.md R331). -/
theorem sopEval_asl_fst (f : Flags) (fv : Bool) (a : Word) : (sopEval .asl f fv a).1 = a <<< 1 := by
  rw [sopEval, addFlags_false_fst, BitVec.shiftLeft_eq_mul_twoPow, BitVec.mul_comm, ← BitVec.two_mul]
  rfl

/-- An instruction that meets no hazard without the barrel shifter meets none where the core has it. -/
theorem State.NoHazard.of_hasBarrel {l : Len} (h : s.NoHazard l none) (hbarrel : s.cfg.hasBarrel = true) :
    s.NoHazard l (some .barrel) where
  shadow := h.shadow
  slot := h.slot
  option := by
    rintro o ⟨⟩
    exact hbarrel

/-- Settles O27: every form is one of two sources or of one, with the result of its operation. -/
theorem logicShift16Completes : Obligations.LogicShift16Completes := by
  refine ⟨?logic, ?shift⟩
  case logic =>
    intro s b c u5 u8 hn hl y z done
    have hreg := reads_op16 s
    have hu5 := reads_imm s (uimm u5 0)
    have hb : (reg16 b).toNat < 32 := reg16_lt_32 b
    have hmask : bitMask (uimm u5 0) = BitVec.twoPow 32 u5.toNat := bitMask_uimm u5
    have hlow : s.reg y &&& lowMask (uimm u5 0) = BitVec.ofNat 32 ((s.reg y).toNat % 2 ^ (u5.toNat + 1)) := by
      rw [and_lowMask, count5_uimm le_rfl]
    exact ⟨exec_data16_binary (.bbc .and b c) rfl hb (hreg b) (hreg c) hn hl fun _ => rfl,
      exec_data16_binary (.bbc .or b c) rfl hb (hreg b) (hreg c) hn hl fun _ => rfl,
      exec_data16_binary (.bbc .bic b c) rfl hb (hreg b) (hreg c) hn hl fun _ => rfl,
      exec_data16_binary (.bbc .xor b c) rfl hb (hreg b) (hreg c) hn hl fun _ => rfl,
      exec_data16_unary (.bc .not b c) rfl hb rfl (hreg c) hn hl fun _ => rfl,
      exec_data16_binary (.bbu5 .bset b u5) rfl hb (hreg b) hu5 hn hl fun _ => congrArg (s.reg y ||| ·) hmask,
      exec_data16_binary (.bbu5 .bclr b u5) rfl hb (hreg b) hu5 hn hl fun _ => congrArg (s.reg y &&& ~~~·) hmask,
      exec_data16_binary (.bbu5 .bmsk b u5) rfl hb (hreg b) hu5 hn hl fun _ => hlow,
      exec_data16_unary (.bc .sexb b c) rfl hb rfl (hreg c) hn hl fun _ => signExtend_extractLsb' _ (by decide),
      exec_data16_unary (.bc .sexw b c) rfl hb rfl (hreg c) hn hl fun _ => signExtend_extractLsb' _ (by decide),
      exec_data16_unary (.bc .extb b c) rfl hb rfl (hreg c) hn hl fun _ => setWidth_extractLsb' _ 8,
      exec_data16_unary (.bc .extw b c) rfl hb rfl (hreg c) hn hl fun _ => setWidth_extractLsb' _ 16,
      exec_data16_unary (.movU8 b u8) rfl hb rfl (reads_uimm_zero s u8) hn hl fun _ => rfl⟩
  case shift =>
    intro s b c u3 u5 hn hl y z done
    have hreg := reads_op16 s
    have hu3 := reads_imm s (uimm u3 0)
    have hu5 := reads_imm s (uimm u5 0)
    have hb : (reg16 b).toNat < 32 := reg16_lt_32 b
    have hc : (reg16 c).toNat < 32 := reg16_lt_32 c
    have hcount : count5 (s.reg z) = (s.reg z).toNat % 32 := count5_eq_mod _
    have hcount3 : count5 (uimm u3 0) = u3.toNat := count5_uimm (by decide) u3
    have hcount5 : count5 (uimm u5 0) = u5.toNat := count5_uimm le_rfl u5
    refine ⟨exec_data16_unary (.bc .asl b c) rfl hb rfl (hreg c) hn hl fun fv => sopEval_asl_fst s.flags fv _,
      exec_data16_unary (.bc .asr b c) rfl hb rfl (hreg c) hn hl fun _ => rfl,
      exec_data16_unary (.bc .lsr b c) rfl hb rfl (hreg c) hn hl fun _ => rfl, fun hbarrel => ?_⟩
    have hnBarrel := hn.of_hasBarrel hbarrel
    exact ⟨exec_data16_binary (.bbc .asl b c) rfl hb (hreg b) (hreg c) hnBarrel hl fun _ => congrArg (s.reg y <<< ·) hcount,
      exec_data16_binary (.bbc .lsr b c) rfl hb (hreg b) (hreg c) hnBarrel hl fun _ => congrArg (s.reg y >>> ·) hcount,
      exec_data16_binary (.bbc .asr b c) rfl hb (hreg b) (hreg c) hnBarrel hl fun _ => congrArg (s.reg y).sshiftRight hcount,
      exec_data16_binary (.bbu5 .asl b u5) rfl hb (hreg b) hu5 hnBarrel hl fun _ => congrArg (s.reg y <<< ·) hcount5,
      exec_data16_binary (.bbu5 .lsr b u5) rfl hb (hreg b) hu5 hnBarrel hl fun _ => congrArg (s.reg y >>> ·) hcount5,
      exec_data16_binary (.bbu5 .asr b u5) rfl hb (hreg b) hu5 hnBarrel hl fun _ => congrArg (s.reg y).sshiftRight hcount5,
      exec_data16_binary (.cbu3 .asl c b u3) rfl hc (hreg b) hu3 hnBarrel hl fun _ => congrArg (s.reg y <<< ·) hcount3,
      exec_data16_binary (.cbu3 .asr c b u3) rfl hc (hreg b) hu3 hnBarrel hl fun _ => congrArg (s.reg y).sshiftRight hcount3⟩

end Sys2Proof.Machine
end

section
/-! Shifts, rotates and the single-operand instructions: results bit by bit and their flags (42_shift_rotate.md R330 to R343,
41_logic_move_bit.md R285, R310 to R313), NORM and NORMW (46_extensions.md R546, R547). -/

namespace Sys2Proof.Machine

/-! ### Shifts and rotates by a count -/

theorem getLsbD_shiftLeft_of_lt {w : Nat} (a : BitVec w) (n : Nat) {i : Nat} (hi : i < w) :
    (a <<< n).getLsbD i = (decide (n ≤ i) && a.getLsbD (i - n)) := by
  rw [BitVec.getLsbD_shiftLeft, decide_eq_true hi, Bool.true_and, ← decide_not, Bool.decide_congr Nat.not_lt]

/-- An arithmetic shift repeats the sign bit. -/
theorem getLsbD_sshiftRight_of_lt {w : Nat} (a : BitVec w) (n : Nat) {i : Nat} (hi : i < w) :
    (a.sshiftRight n).getLsbD i = if i + n < w then a.getLsbD (i + n) else a.getLsbD (w - 1) := by
  rw [BitVec.getLsbD_sshiftRight, decide_eq_false (Nat.not_le.mpr hi), Bool.not_false, Bool.true_and,
    BitVec.msb_eq_getLsbD_last, Nat.add_comm]

/-- A rotation reads the bits cyclically. -/
theorem getLsbD_rotateRight_eq_mod {w : Nat} (a : BitVec w) {n i : Nat} (hn : n < w) (hi : i < w) :
    (a.rotateRight n).getLsbD i = a.getLsbD ((i + n) % w) := by
  rw [BitVec.getLsbD_rotateRight_of_lt hn, Bool.cond_decide, decide_eq_true hi, Bool.true_and]
  split
  next hlow => rw [Nat.mod_eq_of_lt (by omega), Nat.add_comm]
  next hwrap =>
    have hmod : (i + n) % w = i - (w - n) := by rw [Nat.mod_eq_sub_mod (by omega), Nat.mod_eq_of_lt (by omega)]; omega
    rw [hmod]

/-! ### Z and N -/

theorem isNeg_eq_getLsbD (r : Word) : isNeg r = r.getLsbD 31 := BitVec.msb_eq_getLsbD_last r

/-- Settles O15: every operation leaves its result to `zncOf`, and its count is the low five bits of the operand. -/
theorem shiftResults : Obligations.ShiftResults := by
  intro f a b i hi k
  have hk : count5 b = k := count5_eq_mod b
  have hlt : k < 32 := Nat.mod_lt _ (by decide)
  have hne : (k != 0) = decide (k ≠ 0) := by rw [bne, beq_eq_decide, decide_not]
  refine ⟨?asl, ?lsr, ?asr, ?ror, ?lastLeft, ?lastRight, ?flags⟩
  case asl => exact hk ▸ getLsbD_shiftLeft_of_lt a _ hi
  case lsr =>
    calc (a >>> count5 b).getLsbD i
        = a.getLsbD (count5 b + i) := BitVec.getLsbD_ushiftRight ..
      _ = a.getLsbD (i + k) := by rw [hk, Nat.add_comm]
  case asr => exact hk ▸ getLsbD_sshiftRight_of_lt a _ hi
  case ror =>
    calc (a.rotateRight (count5 b)).getLsbD i
        = (a.rotateRight k).getLsbD i := by rw [hk]
      _ = a.getLsbD ((i + k) % 32) := getLsbD_rotateRight_eq_mod a hlt hi
  case lastLeft =>
    change (count5 b != 0 && a.getLsbD (32 - count5 b)) = _
    rw [hk, hne]
  case lastRight =>
    have hlast : lastOutRight a (count5 b) = (decide (k ≠ 0) && a.getLsbD (k - 1)) := by rw [lastOutRight, hk, hne]
    intro op hop
    fin_cases hop <;> exact hlast
  case flags =>
    intro op hop
    fin_cases hop <;> exact ⟨rfl, isNeg_eq_getLsbD _, rfl⟩

/-! ### Shifts and rotates by one (42_shift_rotate.md R332 to R336) -/

/-- A shift right by one, with the bit that enters at the top. -/
theorem getLsbD_ofBool_append_extractLsb' (c : Bool) (a : Word) {i : Nat} (hi : i < 32) :
    (BitVec.ofBool c ++ a.extractLsb' 1 31).getLsbD i = if i = 31 then c else a.getLsbD (i + 1) := by
  rw [BitVec.getLsbD_append, BitVec.getLsbD_extractLsb', BitVec.getLsbD_ofBool, Nat.add_comm]
  by_cases htop : i = 31
  · subst htop
    rfl
  · have hlow : i < 31 := by omega
    rw [if_pos hlow, if_neg htop, decide_eq_true hlow, Bool.true_and]

/-- A shift left by one, with the bit that enters at the bottom. -/
theorem getLsbD_extractLsb'_append_ofBool (a : Word) (c : Bool) {i : Nat} (hi : i < 32) :
    (a.extractLsb' 0 31 ++ BitVec.ofBool c).getLsbD i = if i = 0 then c else a.getLsbD (i - 1) := by
  rw [BitVec.getLsbD_append, BitVec.getLsbD_extractLsb', BitVec.getLsbD_ofBool, Nat.zero_add]
  by_cases hbottom : i = 0
  · subst hbottom
    rfl
  · have hhigh : i - 1 < 31 := by omega
    rw [if_neg (by omega), if_neg hbottom, decide_eq_true hhigh, Bool.true_and]

/-- The bit after bit `i` is inside the word unless `i` is the top bit. -/
theorem ite_succ_lt_32 {i : Nat} (hi : i < 32) (y x : Bool) :
    (if i + 1 < 32 then y else x) = if i = 31 then x else y := by
  by_cases htop : i = 31
  · rw [if_pos htop, if_neg (by omega)]
  · rw [if_neg htop, if_pos (by omega)]

theorem getLsbD_sshiftRight_one (a : Word) {i : Nat} (hi : i < 32) :
    (a.sshiftRight 1).getLsbD i = if i = 31 then a.getLsbD 31 else a.getLsbD (i + 1) := by
  rw [getLsbD_sshiftRight_of_lt a 1 hi, ite_succ_lt_32 hi]

theorem getLsbD_ushiftRight_one (a : Word) {i : Nat} (hi : i < 32) :
    (a >>> 1).getLsbD i = if i = 31 then false else a.getLsbD (i + 1) := by
  rw [BitVec.getLsbD_ushiftRight, Nat.add_comm, ← ite_succ_lt_32 hi]
  split
  next => rfl
  next hout => exact BitVec.getLsbD_of_ge a _ (Nat.not_lt.mp hout)

theorem getLsbD_rotateRight_one (a : Word) {i : Nat} (hi : i < 32) :
    (a.rotateRight 1).getLsbD i = if i = 31 then a.getLsbD 0 else a.getLsbD (i + 1) := by
  rw [getLsbD_rotateRight_eq_mod a (by decide) hi]
  split
  next htop => rw [htop]
  next hlow => rw [Nat.mod_eq_of_lt (by omega)]

/-! ### Parts of a word (41_logic_move_bit.md R310 to R313, 46_extensions.md R545) -/

theorem toInt_signExtend_extractLsb' (a : Word) {n : Nat} (hn : n ≤ 32) :
    ((a.extractLsb' 0 n).signExtend 32).toInt = (a.toInt % 2 ^ n).bmod (2 ^ n) := by
  have hpow : ((2 ^ n : Nat) : Int) = 2 ^ n := Nat.cast_pow 2 n
  rw [BitVec.toInt_signExtend_of_le hn, BitVec.toInt_extractLsb', Nat.shiftRight_zero, ← hpow, Int.emod_bmod,
    BitVec.toInt_eq_toNat_bmod, Int.bmod_bmod_of_dvd (pow_dvd_pow 2 hn)]

theorem toNat_setWidth_extractLsb' (a : Word) {n : Nat} (hn : n ≤ 32) :
    ((a.extractLsb' 0 n).setWidth 32).toNat = a.toNat % 2 ^ n := by
  rw [BitVec.toNat_setWidth_of_le hn, BitVec.extractLsb'_toNat, Nat.shiftRight_zero]

/-- Swapping the halves is a rotation by 16. -/
theorem getLsbD_swap (a : Word) {i : Nat} (hi : i < 32) :
    (a.extractLsb' 0 16 ++ a.extractLsb' 16 16).getLsbD i = a.getLsbD ((i + 16) % 32) := by
  rw [BitVec.getLsbD_append, BitVec.getLsbD_extractLsb', BitVec.getLsbD_extractLsb']
  split
  next hlow => rw [decide_eq_true hlow, Bool.true_and, Nat.mod_eq_of_lt (by omega), Nat.add_comm]
  next hhigh =>
    have hmod : (i + 16) % 32 = i - 16 := by omega
    rw [hmod, decide_eq_true (by omega), Bool.true_and, Nat.zero_add]

/-! ### The normalization integer (46_extensions.md R546, R547) -/

theorem leadingZeros_succ_of_testBit {x n : Nat} (h : x.testBit n = true) : leadingZeros x (n + 1) = 0 := by
  rw [leadingZeros, h, cond_true]

theorem leadingZeros_succ_of_not_testBit {x n : Nat} (h : x.testBit n = false) :
    leadingZeros x (n + 1) = leadingZeros x n + 1 := by
  rw [leadingZeros, h, cond_false]

theorem leadingZeros_le (x n : Nat) : leadingZeros x n ≤ n := by
  induction n with
  | zero => exact le_rfl
  | succ n ih =>
    cases h : x.testBit n with
    | true => rw [leadingZeros_succ_of_testBit h]; exact Nat.zero_le _
    | false => rw [leadingZeros_succ_of_not_testBit h]; exact Nat.succ_le_succ ih

/-- The leading zeros are zeros. -/
theorem testBit_of_sub_leadingZeros_le {x n i : Nat} (hi : i < n) (hlz : n - leadingZeros x n ≤ i) : x.testBit i = false := by
  induction n with
  | zero => exact absurd hi (Nat.not_lt_zero i)
  | succ n ih =>
    cases h : x.testBit n with
    | true =>
      rw [leadingZeros_succ_of_testBit h] at hlz
      omega
    | false =>
      rw [leadingZeros_succ_of_not_testBit h] at hlz
      obtain hlt | rfl := Nat.lt_succ_iff_lt_or_eq.mp hi
      · exact ih hlt (by omega)
      · exact h

/-- The bit after the leading zeros is a one. -/
theorem testBit_sub_leadingZeros {x n : Nat} (hlt : leadingZeros x n < n) : x.testBit (n - 1 - leadingZeros x n) = true := by
  induction n with
  | zero => exact absurd hlt (Nat.not_lt_zero _)
  | succ n ih =>
    cases h : x.testBit n with
    | true => rwa [leadingZeros_succ_of_testBit h]
    | false =>
      rw [leadingZeros_succ_of_not_testBit h] at hlt ⊢
      have hindex : n + 1 - 1 - (leadingZeros x n + 1) = n - 1 - leadingZeros x n := by omega
      rw [hindex]
      exact ih (Nat.lt_of_succ_lt_succ hlt)

/-- Folding a value onto the non-negative ones leaves a one exactly where a bit differs from the sign. -/
theorem testBit_fold {w : Nat} (a : BitVec w) {i : Nat} (hi : i < w) :
    (bif a.msb then ~~~a else a).toNat.testBit i = (a.getLsbD i ^^ a.msb) := by
  rw [BitVec.testBit_toNat]
  cases a.msb with
  | true => rw [cond_true, BitVec.getLsbD_not, decide_eq_true hi, Bool.true_and, Bool.xor_true]
  | false => rw [cond_false, Bool.xor_false]

/-- `n` is the number of bits below bit `m` that equal it, up to the first that differs. -/
structure CountsSignBits {w : Nat} (a : BitVec w) (m n : Nat) : Prop where
  le : n ≤ m
  equal : ∀ j, j ≤ n → a.getLsbD (m - j) = a.getLsbD m
  differs : n < m → a.getLsbD (m - 1 - n) ≠ a.getLsbD m

/-- The sign bit of the folded value is one of its leading zeros: the others are the bits that equal the sign. -/
theorem countsSignBits_normInt {m : Nat} (a : BitVec (m + 1)) : CountsSignBits a m (normInt a) := by
  have hsign : a.msb = a.getLsbD m := BitVec.msb_eq_getLsbD_last a
  have hfold {i : Nat} (hi : i ≤ m) := testBit_fold a (Nat.lt_succ_of_le hi)
  have htop := hfold le_rfl
  rw [← hsign, Bool.xor_self] at htop
  rw [normInt, leadingZeros_succ_of_not_testBit htop, Nat.add_sub_cancel]
  generalize (bif a.msb then ~~~a else a).toNat = x at hfold
  constructor
  case le => exact leadingZeros_le x m
  case equal =>
    intro j hj
    obtain rfl | hpos := Nat.eq_zero_or_pos j
    · rfl
    · have hm := leadingZeros_le x m
      have hzero : x.testBit (m - j) = false := testBit_of_sub_leadingZeros_le (n := m) (by omega) (by omega)
      rw [hfold (Nat.sub_le m j), bne_eq_false_iff_eq] at hzero
      rw [hzero, hsign]
  case differs =>
    intro hlt hsame
    have hone := testBit_sub_leadingZeros hlt
    rw [hfold (by omega), hsame, hsign, Bool.xor_self] at hone
    exact Bool.false_ne_true hone

/-- Bits below bit `k` may be counted in the low part of a word. -/
theorem CountsSignBits.of_extractLsb' {w k m n : Nat} {a : BitVec w} (hm : m < k)
    (h : CountsSignBits (a.extractLsb' 0 k) m n) : CountsSignBits a m n := by
  have hbit {i : Nat} (hi : i ≤ m) : (a.extractLsb' 0 k).getLsbD i = a.getLsbD i := by
    rw [BitVec.getLsbD_extractLsb', decide_eq_true (hi.trans_lt hm), Bool.true_and, Nat.zero_add]
  obtain ⟨hle, hequal, hdiffers⟩ := h
  constructor
  case le => exact hle
  case equal =>
    intro j hj
    rw [← hbit (Nat.sub_le m j), ← hbit le_rfl, hequal j hj]
  case differs =>
    intro hlt
    rw [← hbit (by omega), ← hbit le_rfl]
    exact hdiffers hlt

theorem countsSignBits_norm (f : Flags) (v : Bool) (a : Word) : CountsSignBits a 31 (sopEval .norm f v a).1.toNat := by
  have h := countsSignBits_normInt a
  have hfits : (sopEval .norm f v a).1.toNat = normInt a := Nat.mod_eq_of_lt (h.le.trans_lt (by decide))
  rwa [hfits]

theorem countsSignBits_normw (f : Flags) (v : Bool) (a : Word) : CountsSignBits a 15 (sopEval .normw f v a).1.toNat := by
  have h := countsSignBits_normInt (a.extractLsb' 0 16)
  have hfits : (sopEval .normw f v a).1.toNat = normInt (a.extractLsb' 0 16) :=
    Nat.mod_eq_of_lt (h.le.trans_lt (by decide))
  rw [hfits]
  exact h.of_extractLsb' (by decide)

theorem normFlags_snd (f : Flags) (a : Word) : (normFlags f a).2 = ⟨a == 0#32, a.getLsbD 31, f.c, f.v⟩ := by
  rw [normFlags, isZero, BitVec.msb_eq_getLsbD_last]

theorem normwFlags_snd (f : Flags) (a : Word) :
    (normwFlags f a).2 = ⟨decide (a.toNat % 2 ^ 16 = 0), a.getLsbD 15, f.c, f.v⟩ := by
  have hlow : (a.extractLsb' 0 16).toNat = a.toNat % 2 ^ 16 := by rw [BitVec.extractLsb'_toNat, Nat.shiftRight_zero]
  have hz : (a.extractLsb' 0 16 == 0#16) = decide (a.toNat % 2 ^ 16 = 0) := by
    rw [beq_eq_decide, Bool.decide_congr BitVec.toNat_inj.symm, hlow, BitVec.toNat_zero]
  have hn : (a.extractLsb' 0 16).msb = a.getLsbD 15 := by rw [BitVec.msb_eq_getLsbD_last, BitVec.getLsbD_extractLsb']; rfl
  rw [normwFlags, hz, hn]

/-! ### The single-operand instructions -/

/-- Settles O22: the shifts and rotates by one and the parts of the word are told bit by bit or as numbers, the flags are those
of `zncOf` and `znOf`, and NORM and NORMW count the leading zeros of the folded source. -/
theorem singleOperandResults : Obligations.SingleOperandResults := by
  refine ⟨fun f v a i hi => ?_, fun f v a => ?_⟩
  · refine ⟨addFlags_false_fst a a, rfl, getLsbD_sshiftRight_one a hi, getLsbD_ushiftRight_one a hi,
      getLsbD_rotateRight_one a hi, getLsbD_ofBool_append_extractLsb' f.c a hi, getLsbD_extractLsb'_append_ofBool a f.c hi,
      BitVec.msb_eq_getLsbD_last a, rfl,
      ?right, toInt_signExtend_extractLsb' a (by decide), toInt_signExtend_extractLsb' a (by decide),
      toNat_setWidth_extractLsb' a (by decide), toNat_setWidth_extractLsb' a (by decide), ?not, getLsbD_swap a hi, ?keep, ?zn⟩
    case right =>
      have hout : bitAt a 0 = a.getLsbD 0 := bitAt_eq_getLsbD a 0
      intro op hop
      fin_cases hop <;> exact ⟨hout, rfl⟩
    case not =>
      calc (~~~a).getLsbD i
          = (decide (i < 32) && !a.getLsbD i) := BitVec.getLsbD_not
        _ = !a.getLsbD i := by rw [decide_eq_true hi, Bool.true_and]
    case keep => exact fun op hop => sopEval_keeps_c_v op (List.mem_append_left [SopOp.norm, .normw] hop) f v a
    case zn =>
      intro op hop
      fin_cases hop <;> exact ⟨rfl, isNeg_eq_getLsbD _⟩
  · refine ⟨?norm, ?normw, normFlags_snd f a, normwFlags_snd f a⟩
    case norm =>
      rintro n rfl
      obtain ⟨hle, hequal, hdiffers⟩ := countsSignBits_norm f v a
      exact ⟨hle, hequal, hdiffers⟩
    case normw =>
      rintro n rfl
      obtain ⟨hle, hequal, hdiffers⟩ := countsSignBits_normw f v a
      exact ⟨hle, hequal, hdiffers⟩

end Sys2Proof.Machine
end

section
/-! The end of an instruction: the next pc and the loop counter (43_branch_jump_loop.md R371, R425). -/

namespace Sys2Proof.Machine

variable {s : State} {l : Len} {e : Ending}

/-- Sequential flow goes back to LP_START at the end of the loop, while the counter is neither 0 nor 1. -/
theorem loopPc_eq_ite (s : State) (l : Len) : s.loopPc l =
    if s.npc l = s.lpEnd ∧ s.lpCount ≠ 0#32 ∧ s.lpCount ≠ 1#32 then s.lpStart else s.npc l := by
  simp only [State.loopPc, State.atLoopEnd, cond_eq_ite, Bool.and_eq_true, beq_iff_eq, bne_iff_ne, and_assoc]

theorem nextPc_of_direct {x : Word} (h : e.transfer = some (x, false)) : s.nextPc l e = (x, none) := by
  rw [State.nextPc, h]

theorem nextPc_of_delayed {x : Word} (h : e.transfer = some (x, true)) : s.nextPc l e = (s.loopPc l, some x) := by
  rw [State.nextPc, h]

theorem nextPc_of_pending {x : Word} (h : e.transfer = none) (hd : s.delayTarget = some x) : s.nextPc l e = (x, none) := by
  rw [State.nextPc, h, hd]

theorem nextPc_of_sequential (h : e.transfer = none) (hd : s.delayTarget = none) : s.nextPc l e = (s.loopPc l, none) := by
  rw [State.nextPc, h, hd]

theorem ended_lpCount_of_last (u : State) (hf : e.lpCountFree = false) (hl : s.npc l = s.lpEnd) :
    (s.ended l e u).lpCount = s.lpCount - 1#32 := by
  have hlast : s.atLoopEnd l = true := beq_iff_eq.2 hl
  rw [ended_lpCount, State.nextLpCount, hf, hlast, cond_false, cond_true]

/-- Settles O42: one rule for each way control can go on, and two for the counter. -/
theorem endOfInstruction : Obligations.EndOfInstruction := by
  intro s t l e npc atEnd seq
  have hseq : s.loopPc l = seq := loopPc_eq_ite s l
  refine ⟨fun x hx => ?direct, fun x hx => ?delayed, fun x hx hd => ?pending, fun hx hd => ?sequential,
    ended_lpCount_of_last t, fun hf hl => ended_lpCount_of_not_last t hf (beq_false_of_ne hl)⟩
  case direct => rw [ended_pc, ended_delayTarget, nextPc_of_direct hx]; exact ⟨rfl, rfl⟩
  case delayed => rw [ended_pc, ended_delayTarget, nextPc_of_delayed hx]; exact ⟨hseq, rfl⟩
  case pending => rw [ended_pc, ended_delayTarget, nextPc_of_pending hx hd]; exact ⟨rfl, rfl⟩
  case sequential => rw [ended_pc, ended_delayTarget, nextPc_of_sequential hx hd]; exact ⟨hseq, rfl⟩

/-! ### The passes of a loop -/

theorem ofNat_sub_one {m : Nat} (h : 0 < m) : BitVec.ofNat 32 m - 1#32 = BitVec.ofNat 32 (m - 1) := by
  apply BitVec.eq_of_toNat_eq
  simp only [BitVec.toNat_sub, BitVec.toNat_ofNat]
  omega

/-- With more than one pass left the last instruction of the body goes back to LP_START. -/
theorem loopPc_of_count {m : Nat} (hl : s.npc l = s.lpEnd) (hc : s.lpCount = BitVec.ofNat 32 m) (hm : 1 < m)
    (hlt : m < 2 ^ 32) : s.loopPc l = s.lpStart := by
  have hne (k : Nat) (hk : k < 2) : BitVec.ofNat 32 m ≠ BitVec.ofNat 32 k := fun h => by
    have hmk := congrArg BitVec.toNat h
    simp only [BitVec.toNat_ofNat] at hmk
    omega
  rw [loopPc_eq_ite, hc, if_pos ⟨hl, hne 0 (by decide), hne 1 (by decide)⟩]

theorem loopPc_of_count_one (hc : s.lpCount = 1#32) : s.loopPc l = s.npc l := by
  rw [loopPc_eq_ite, if_neg fun ⟨_, _, hne⟩ => hne hc]

/-- Settles O43: by induction on the passes, `n - k` of them are left at the k-th. -/
theorem loopRunsCountTimes : Obligations.LoopRunsCountTimes := by
  intro n l pass finish start hn hlt hpass hfirst hnext
  have hlast (k : Nat) (hk : k < n) : (pass k).npc l = (pass k).lpEnd := by
    obtain ⟨hpc, hend, -, -⟩ := hpass k hk
    exact hpc.trans hend.symm
  have hcount (k : Nat) (hk : k < n) : (pass k).lpCount = BitVec.ofNat 32 (n - k) := by
    induction k with
    | zero => exact hfirst
    | succ k ih =>
      have hk' : k < n := Nat.lt_of_succ_lt hk
      rw [hnext k hk, ended_lpCount_of_last (pass k) rfl (hlast k hk'), ih hk', ofNat_sub_one (Nat.sub_pos_of_lt hk'),
        Nat.sub_sub]
  have hpc (k : Nat) (hk : k < n) : ((pass k).ended l {} (pass k)).pc = (pass k).loopPc l := by
    obtain ⟨-, -, -, htarget⟩ := hpass k hk
    rw [ended_pc, nextPc_of_sequential rfl htarget]
  have hpred : n - 1 < n := Nat.pred_lt_of_lt hn
  have hone : (pass (n - 1)).lpCount = 1#32 := by rw [hcount _ hpred, Nat.sub_sub_self hn]
  refine ⟨fun k hk => ?back, ?through, ?spent⟩
  case back =>
    have hk' : k < n := Nat.lt_of_succ_lt hk
    obtain ⟨-, -, hstart, -⟩ := hpass k hk'
    rw [hpc k hk', loopPc_of_count (hlast k hk') (hcount k hk') (by omega) (by omega), hstart]
  case through =>
    obtain ⟨hfinish, -, -, -⟩ := hpass _ hpred
    rw [hpc _ hpred, loopPc_of_count_one hone]
    exact hfinish
  case spent => rw [ended_lpCount_of_last _ rfl (hlast _ hpred), hone]; rfl

end Sys2Proof.Machine
end

section
/-! Branches and jumps that complete, taken and not taken (43_branch_jump_loop.md R370 to R406). -/

namespace Sys2Proof.Machine

variable {s : State}

@[simp] theorem withValue_ok {α : Type} (a : α) (k : α → Result) : withValue (.ok a) k = k a := rfl

@[simp] theorem withValue_error {α : Type} (r : Refusal) (k : α → Result) : withValue (.error r) k = .refused r := rfl

/-- BLINK is one of r0 to r31. -/
theorem writeCore_rBLINK (s : State) (v : Word) : s.writeCore rBLINK v = s.setReg 31 v :=
  writeCore_of_lt_32 s v (by decide)

/-! ### The shared meaning -/

section Complete

variable {x : BranchArgs} (hn : s.NoHazard x.len none) (hp : s.prevDslot = false) (hl : s.LoopReady x.len false false)

include hn hp hl

theorem runBranch_taken {target : Word} {free : Bool} (ht : s.branchTaken x = .ok true)
    (hg : s.branchTarget x = .ok target) (hf : s.slotCheck x.len x.kind (some target) = .ok free) :
    runBranch x s = .next (s.ended x.len
      { transfer := some (target, x.delayed), lpCountFree := free, dslotForm := x.delayed, cmpBranch := x.test.isCmp }
      (if x.link = true then
        (s.afterReads (x.test.operands ++ x.target.operands)).setReg 31 (s.linkValue x.len x.delayed)
      else s.afterReads (x.test.operands ++ x.target.operands))) := by
  rw [runBranch, hn.start_eq, hp, cond_false, ht, hg, withValue_ok, cond_true, withValue_ok, hf, withValue_ok,
    hl.retire_eq rfl rfl, writeCore_rBLINK, cond_eq_ite]

theorem runBranch_not_taken {free : Bool} (ht : s.branchTaken x = .ok false) (hf : s.slotCheck x.len x.kind none = .ok free) :
    runBranch x s = .next (s.ended x.len { dslotForm := x.delayed, cmpBranch := x.test.isCmp }
      (s.afterReads x.test.operands)) := by
  rw [runBranch, hn.start_eq, hp, cond_false, ht, withValue_ok, cond_false, hf, withValue_ok, hl.retire_eq rfl rfl]

end Complete

/-! ### Branches and jumps with a condition on the flags -/

@[simp] theorem testOf_operands (c : Option (BitVec 5)) : (testOf c).operands = [] := by cases c <;> rfl

@[simp] theorem testOf_isCmp (c : Option (BitVec 5)) : (testOf c).isCmp = false := by cases c <;> rfl

theorem branchTaken_testOf {x : BranchArgs} {c : Option (BitVec 5)} (h : x.test = testOf c) :
    s.branchTaken x = .ok (s.condMet c) := by
  rw [State.branchTaken, h]
  cases c <;> rfl

/-- The target of a jump is the value of its operand with bit 0 cleared (R374). -/
theorem branchTarget_abs {x : BranchArgs} {o : Operand} {v : Word} (h : x.target = .abs o)
    (hv : s.value x.len 1 o = .ok v) : s.branchTarget x = .ok (v &&& 0xFFFFFFFE#32) := by
  simp only [State.branchTarget, h, hv]
  rfl

section Cond

variable {x : BranchArgs} {c : Option (BitVec 5)} (hx : x.test = testOf c) (hn : s.NoHazard x.len none)
  (hp : s.prevDslot = false) (hl : s.LoopReady x.len false false)

include hx hn hp hl

theorem runBranch_cond_met {target : Word} {free : Bool} (hc : s.condMet c = true) (hg : s.branchTarget x = .ok target)
    (hf : s.slotCheck x.len x.kind (some target) = .ok free) :
    runBranch x s = .next (s.ended x.len
      { transfer := some (target, x.delayed), lpCountFree := free, dslotForm := x.delayed }
      (if x.link = true then (s.afterReads x.target.operands).setReg 31 (s.linkValue x.len x.delayed)
      else s.afterReads x.target.operands)) := by
  rw [runBranch_taken hn hp hl ((branchTaken_testOf hx).trans (congrArg _ hc)) hg hf, hx, testOf_operands, testOf_isCmp,
    List.nil_append]

theorem runBranch_cond_not_met {free : Bool} (hc : s.condMet c = false) (hf : s.slotCheck x.len x.kind none = .ok free) :
    runBranch x s = .next (s.ended x.len { dslotForm := x.delayed } s) := by
  rw [runBranch_not_taken hn hp hl ((branchTaken_testOf hx).trans (congrArg _ hc)) hf, hx, testOf_operands, testOf_isCmp,
    afterReads_nil]

end Cond

theorem jdArgs_len (form : JDForm) : (jdArgs form).len = ⟨false, false⟩ := by cases form <;> rfl

/-- A branch or jump runs the shared meaning on its operands. -/
theorem exec_eq_runBranch {i : Instr} {x : BranchArgs} (h : i.shape.branchArgs = some x) (s : State) :
    exec i s = runBranch x s := by
  rw [exec_eq_run]
  generalize i.shape = v at h
  cases v with
  | jump | jumpD | bcc | bfar | blcc | bl | br | ctl16 => obtain rfl := Option.some.inj h; rfl
  | _ => cases h

theorem branchArgs_ofJump (link : Bool) (form : JForm) :
    (Instr.ofJump link form).shape.branchArgs = some (jumpArgs link (jArgs form)) := by cases link <;> rfl

theorem branchArgs_ofJumpD (link : Bool) (form : JDForm) :
    (Instr.ofJumpD link form).shape.branchArgs = some (jumpDArgs link (jdArgs form)) := by cases link <;> rfl

theorem branchArgs_ofBr (op : BrOp) (form : BrForm) :
    (Instr.ofBr op form).shape.branchArgs = some (brArgs op form) := by cases op <;> rfl

/-- Settles O36: a jump is a branch whose target is its operand. -/
theorem jumpCompletes : Obligations.JumpCompletes := by
  refine ⟨?plain, ?delayed⟩
  case plain =>
    intro link form s x hn hp hl
    have hexec := exec_eq_runBranch (branchArgs_ofJump link form) s
    refine ⟨fun v free hc hv hf => hexec.trans ?_, fun free hc hf => hexec.trans ?_⟩
    · exact runBranch_cond_met (x := jumpArgs link x) rfl hn hp hl hc (branchTarget_abs rfl hv) hf
    · exact runBranch_cond_not_met (x := jumpArgs link x) rfl hn hp hl hc hf
  case delayed =>
    intro link form s x l kind _ hn hp hl
    have hexec := exec_eq_runBranch (branchArgs_ofJumpD link form) s
    have hlen : l = x.len := (jdArgs_len form).symm
    have hkind : kind = (jumpDArgs link x).kind := (cond_eq_ite ..).symm
    rw [hlen] at hn hl ⊢
    rw [hkind]
    refine ⟨fun v free hc hv hf => hexec.trans ?_, fun free hc hf => hexec.trans ?_⟩
    · exact runBranch_cond_met (x := jumpDArgs link x) rfl hn hp hl hc (branchTarget_abs rfl hv) hf
    · exact runBranch_cond_not_met (x := jumpDArgs link x) rfl hn hp hl hc hf

/-! ### Branches to a displacement from the aligned pc -/

theorem simm_one {w : Nat} (d : BitVec w) : simm d 1 = 2 * d.signExtend 32 := by
  rw [simm, BitVec.shiftLeft_eq_mul_twoPow, BitVec.mul_comm]
  rfl

theorem uimm_one {w : Nat} (u : BitVec w) : uimm u 1 = 2 * u.setWidth 32 := by
  rw [uimm, BitVec.shiftLeft_eq_mul_twoPow, BitVec.mul_comm]
  rfl

/-- The link value of a delayed form is the address after its delay-slot instruction (R384). -/
theorem linkValue_delayed {l : Len} {h : Half} (hh : s.fetch16 (s.npc l) = some h) :
    s.linkValue l true = s.npc l + if (h.extractLsb' 11 5).toNat < 8 then 4#32 else 2#32 := by
  simp only [State.linkValue, hh, isWide_eq, Bool.cond_decide, cond_true]

/-- Settles O37: the four branches are one shared form with its condition, displacement and link. -/
theorem branchCompletes : Obligations.BranchCompletes := by
  refine ⟨?branches, fun s l => ⟨rfl, fun h hh => linkValue_delayed hh⟩⟩
  intro s d20 d24 d19 d23 n q l hn hp hl taken falls
  have htaken {i : Instr} {c : Option (BitVec 5)} {link : Bool} {rd rd' : Word}
      (hi : i.shape.branchArgs = some (relArgs c rd link n l)) (hrd : rd = rd') (hc : s.condMet c = true) :
      taken i link rd' := by
    rintro free hf
    rw [← hrd] at hf ⊢
    exact (exec_eq_runBranch hi s).trans (runBranch_cond_met (x := relArgs c rd link n l) rfl hn hp hl hc rfl hf)
  have hfalls {i : Instr} {c : Option (BitVec 5)} {link : Bool} {rd : Word}
      (hi : i.shape.branchArgs = some (relArgs c rd link n l)) (hc : s.condMet c = false) : falls i link := fun free hf =>
    (exec_eq_runBranch hi s).trans (runBranch_cond_not_met (x := relArgs c rd link n l) rfl hn hp hl hc hf)
  exact ⟨fun hc => ⟨htaken rfl (simm_one d20) hc, htaken rfl (simm_two d19) hc⟩, fun hc => ⟨hfalls rfl hc, hfalls rfl hc⟩,
    htaken rfl (simm_one d24) rfl, htaken rfl (simm_two d23) rfl⟩

/-! ### Compare-and-branch -/

section Compare

variable {op : BrOp} {o₁ o₂ : Operand} {a b rd : Word} {delayed : Bool} {kind : BranchKind} {l : Len}
  (hn : s.NoHazard l none) (hp : s.prevDslot = false) (hl : s.LoopReady l false false)
  (ha : s.value l 0 o₁ = .ok a) (hb : s.value l 1 o₂ = .ok b)

include hn hp hl ha hb

/-- A compare-and-branch whose test holds (R390). -/
theorem runBranch_compare_true {free : Bool} (ht : brTaken op a b = true)
    (hf : s.slotCheck l kind (some (s.pcl + rd)) = .ok free) :
    runBranch ⟨.cmp op o₁ o₂, .rel rd, false, delayed, kind, l⟩ s = .next (s.ended l
      { transfer := some (s.pcl + rd, delayed), lpCountFree := free, dslotForm := delayed, cmpBranch := true }
      (s.afterReads [o₁, o₂])) := by
  have htaken : s.branchTaken ⟨.cmp op o₁ o₂, .rel rd, false, delayed, kind, l⟩ = .ok true := by
    simp only [State.branchTaken, ha, hb, ht]
  exact runBranch_taken hn hp hl htaken rfl hf

/-- A compare-and-branch whose test does not hold. -/
theorem runBranch_compare_false {free : Bool} (ht : brTaken op a b = false) (hf : s.slotCheck l kind none = .ok free) :
    runBranch ⟨.cmp op o₁ o₂, .rel rd, false, delayed, kind, l⟩ s =
      .next (s.ended l { dslotForm := delayed, cmpBranch := true } (s.afterReads [o₁, o₂])) := by
  have htaken : s.branchTaken ⟨.cmp op o₁ o₂, .rel rd, false, delayed, kind, l⟩ = .ok false := by
    simp only [State.branchTaken, ha, hb, ht]
  exact runBranch_not_taken hn hp hl htaken hf

end Compare

theorem brTaken_brlt (a b : Word) : brTaken .brlt a b = true ↔ a.toInt < b.toInt := BitVec.slt_iff_toInt_lt

theorem brTaken_brge (a b : Word) : brTaken .brge a b = true ↔ b.toInt ≤ a.toInt := BitVec.sle_iff_toInt_le

theorem brTaken_brlo (a b : Word) : brTaken .brlo a b = true ↔ a.toNat < b.toNat := decide_eq_true_iff

theorem brTaken_brhs (a b : Word) : brTaken .brhs a b = true ↔ b.toNat ≤ a.toNat := decide_eq_true_iff

theorem brTaken_bbit1 (a b : Word) : brTaken .bbit1 a b = a.getLsbD (b.toNat % 32) := by rw [brTaken, count5_eq_mod]

theorem brTaken_bbit0 (a b : Word) : brTaken .bbit0 a b = !a.getLsbD (b.toNat % 32) := by rw [brTaken, count5_eq_mod]

/-- Settles O38: both formats compare their two operands and go to a displacement. -/
theorem compareBranchCompletes : Obligations.CompareBranchCompletes := by
  refine ⟨fun a b => ⟨beq_iff_eq, bne_iff_ne, brTaken_brlt a b, brTaken_brge a b, brTaken_brlo a b, brTaken_brhs a b, ?bit0,
    (brTaken_bbit1 a b ▸ Iff.rfl)⟩, ?run⟩
  case bit0 => rw [brTaken_bbit0, Bool.not_eq_true']
  case run =>
    intro op form s l kind pcl _ hn hp hl run
    have hrun {o₁ o₂ : Operand} {d : BitVec 8} {n : Bool}
        (hx : brArgs op form = ⟨.cmp op o₁ o₂, .rel (simm d 1), false, n, bif n then .cmpDelayed else .cmp, l⟩) :
        run o₁ o₂ d n := by
      intro a b free ha hb
      rw [exec_eq_runBranch (branchArgs_ofBr op form) s, hx, simm_one, cond_eq_ite]
      exact ⟨runBranch_compare_true hn hp hl ha hb, runBranch_compare_false hn hp hl ha hb⟩
    cases form with
    | bcs9 b r d n limm => exact hrun rfl
    | bu6s9 b u d n limm =>
      have himm : run (.reg b limm) (.imm (uimm u 0)) d n := hrun rfl
      rwa [uimm_zero] at himm

/-! ### The 16-bit forms -/

/-- The signed conditions, by whether N and V differ (10_state.md R36). -/
theorem condHolds_signed (cfg : Config) (f : Flags) :
    condHolds cfg 0x9#5 f = (!f.z && f.n == f.v) ∧ condHolds cfg 0xA#5 f = (f.n == f.v) ∧
    condHolds cfg 0xB#5 f = (f.n != f.v) ∧ condHolds cfg 0xC#5 f = (f.z || f.n != f.v) := by
  obtain ⟨-, -, -, -, -, -, -, -, -, hGt, hGe, hLt, hLe, -⟩ := conditionCodes cfg f
  have gt : ∀ z n v : Bool, (n && v && !z || !n && !v && !z) = (!z && n == v) := by decide
  have ge : ∀ n v : Bool, (n && v || !n && !v) = (n == v) := by decide
  have lt : ∀ n v : Bool, (n && !v || !n && v) = (n != v) := by decide
  have le : ∀ z n v : Bool, (z || n && !v || !n && v) = (z || n != v) := by decide
  exact ⟨hGt.trans (gt _ _ _), hGe.trans (ge _ _), hLt.trans (lt _ _), hLe.trans (le _ _ _)⟩

/-- The meaning of a 16-bit branch or jump with a condition on the flags: taken to `target`, or not taken. -/
def Ctl16Goes (s : State) (form : Ctl16) (cond : Bool) (target : Word) : Prop :=
  (∀ free, cond = true → s.slotCheck len16 form.args.kind (some target) = .ok free →
    exec (Instr.ofShape (.ctl16 form)) s = .next (s.ended len16
      { transfer := some (target, form.args.delayed), lpCountFree := free, dslotForm := form.args.delayed }
      (if form.args.link = true then s.setReg 31 (s.linkValue len16 form.args.delayed) else s))) ∧
  (∀ free, cond = false → s.slotCheck len16 form.args.kind none = .ok free →
    exec (Instr.ofShape (.ctl16 form)) s = .next (s.ended len16 { dslotForm := form.args.delayed } s))

theorem ctl16Args_len (form : Ctl16) : form.args.len = len16 := by cases form <;> rfl

section Short

variable (form : Ctl16) (c : Option (BitVec 5)) {cond : Bool} (hn : s.NoHazard len16 none) (hp : s.prevDslot = false)
  (hl : s.LoopReady len16 false false) (hx : form.args.test = testOf c) (hcond : s.condMet c = cond)

include hn hp hl hx hcond

theorem ctl16Goes {target : Word} (hg : s.branchTarget form.args = .ok target)
    (hr : s.afterReads form.args.target.operands = s) : Ctl16Goes s form cond target := by
  unfold Ctl16Goes
  rw [← ctl16Args_len form] at hn hl ⊢
  rw [exec_ofShape, ← hcond]
  refine ⟨fun free hc hf => ?_, fun free hc hf => runBranch_cond_not_met hx hn hp hl hc hf⟩
  rw [Shape.run, runBranch_cond_met hx hn hp hl hc hg hf, hr]

/-- A jump to a register that is read without effect. -/
theorem ctl16Goes_jump {o : Operand} {v : Word} (ho : s.Reads o v) (htarget : form.args.target = .abs o) :
    Ctl16Goes s form cond (v &&& 0xFFFFFFFE#32) :=
  ctl16Goes form c hn hp hl hx hcond (branchTarget_abs htarget (ho.value _ _)) (by rw [htarget]; exact ho.afterReads [])

/-- A branch to a displacement. -/
theorem ctl16Goes_branch {w : Nat} {d : BitVec w} (htarget : form.args.target = .rel (simm d 1)) :
    Ctl16Goes s form cond (s.pcl + 2 * d.signExtend 32) :=
  ctl16Goes form c hn hp hl hx hcond (by rw [State.branchTarget, htarget, simm_one]) (by rw [htarget]; rfl)

end Short

/-- BREQ_S and BRNE_S compare a register with 0 (R391). -/
theorem exec_ctl16_br (hn : s.NoHazard len16 none) (hp : s.prevDslot = false) (hl : s.LoopReady len16 false false)
    (ne : Bool) (b : Reg3) (d : BitVec 7) {cond : Bool}
    (hcond : brTaken (bif ne then .brne else .breq) (s.reg (reg16 b).toNat) 0#32 = cond) :
    (∀ free, cond = true → s.slotCheck len16 .cmp (some (s.pcl + simm d 1)) = .ok free →
      exec (Instr.ofShape (.ctl16 (.br ne b d))) s = .next (s.ended len16
        { transfer := some (s.pcl + simm d 1, false), lpCountFree := free, cmpBranch := true } s)) ∧
    (∀ free, cond = false → s.slotCheck len16 .cmp none = .ok free →
      exec (Instr.ofShape (.ctl16 (.br ne b d))) s = .next (s.ended len16 { cmpBranch := true } s)) := by
  have hreads : s.afterReads [op16 b, .imm 0#32] = s := by rw [afterReads_op16, afterReads_imm, afterReads_nil]
  have hb := value_op16 s len16 0 b
  rw [exec_ofShape, ← hcond]
  refine ⟨fun free hc hf => ?_, fun free hc hf => ?_⟩
  · exact (runBranch_compare_true hn hp hl hb rfl hc hf).trans (by rw [hreads])
  · exact (runBranch_compare_false hn hp hl hb rfl hc hf).trans (by rw [hreads])

/-- Settles O39: every form but the compares with 0 has a condition on the flags, and goes to a register or a displacement. -/
theorem branch16Completes : Obligations.Branch16Completes := by
  intro s b d6 d7 d9 d11 hn hp hl y f pcl even goes cmp
  obtain ⟨hGt, hGe, hLt, hLe⟩ := condHolds_signed s.cfg f
  have hreg : s.Reads (op16 b) y := reads_op16 s b
  have hblink : s.Reads (.reg rBLINK 0#32) (s.reg 31) := reads_reg s 0#32 (by decide)
  refine ⟨ctl16Goes_jump (.j false false b) none hn hp hl rfl rfl hreg rfl,
    ctl16Goes_jump (.j false true b) none hn hp hl rfl rfl hreg rfl,
    ctl16Goes_jump (.j true false b) none hn hp hl rfl rfl hreg rfl,
    ctl16Goes_jump (.j true true b) none hn hp hl rfl rfl hreg rfl,
    ctl16Goes_jump (.jBlink false) none hn hp hl rfl rfl hblink rfl,
    ctl16Goes_jump (.jBlink true) none hn hp hl rfl rfl hblink rfl,
    ctl16Goes_jump (.jCond false) (some 1#5) hn hp hl rfl rfl hblink rfl,
    ctl16Goes_jump (.jCond true) (some 2#5) hn hp hl rfl rfl hblink rfl,
    ctl16Goes_branch (.b .al d9) none hn hp hl rfl rfl rfl,
    ctl16Goes_branch (.b .eq d9) (some 1#5) hn hp hl rfl rfl rfl,
    ctl16Goes_branch (.b .ne d9) (some 2#5) hn hp hl rfl rfl rfl,
    ctl16Goes_branch (.bcc .gt d6) (some 0x9#5) hn hp hl rfl hGt rfl,
    ctl16Goes_branch (.bcc .ge d6) (some 0xA#5) hn hp hl rfl hGe rfl,
    ctl16Goes_branch (.bcc .lt d6) (some 0xB#5) hn hp hl rfl hLt rfl,
    ctl16Goes_branch (.bcc .le d6) (some 0xC#5) hn hp hl rfl hLe rfl,
    ctl16Goes_branch (.bcc .hi d6) (some 0xD#5) hn hp hl rfl rfl rfl,
    ctl16Goes_branch (.bcc .hs d6) (some 0x6#5) hn hp hl rfl rfl rfl,
    ctl16Goes_branch (.bcc .lo d6) (some 0x5#5) hn hp hl rfl rfl rfl,
    ctl16Goes_branch (.bcc .ls d6) (some 0xE#5) hn hp hl rfl rfl rfl,
    ?breq, ?brne, ?blS⟩
  case breq => rw [← simm_one d7]; exact exec_ctl16_br hn hp hl false b d7 rfl
  case brne => rw [← simm_one d7]; exact exec_ctl16_br hn hp hl true b d7 rfl
  case blS => rw [← simm_two d11]; exact ctl16Goes (.bl d11) none hn hp hl rfl rfl rfl rfl

end Sys2Proof.Machine
end

section
/-! Return from interrupt or exception (43_branch_jump_loop.md R401, 60_exceptions.md R580) and LP (R420). -/

namespace Sys2Proof.Machine

variable {s : State}

/-! ### J.F -/

theorem setStatus_eq (s : State) (v : Word) : s.setStatus v =
    { s with
      flags := ⟨v.getLsbD 11, v.getLsbD 10, v.getLsbD 9, v.getLsbD 8⟩
      e2 := v.getLsbD 2
      e1 := v.getLsbD 1 } := by
  simp only [State.setStatus, flagsOf, bitAt_eq_getLsbD]

/-- The kind of `J.F` in the table of R427. -/
def jfKind (form : JFForm) : BranchKind := if jfDelayed form = true then .delayed else .plain

/-- Past the checks that do not depend on the loop, J.F is the check of its slot and its end. -/
theorem runReturn_eq {form : JFForm} (hn : s.NoHazard ⟨false, false⟩ none) (hp : s.prevDslot = false)
    (hfl : s.prevFlag = false) (hsr : s.prevSrStatusL = false) : runReturn form s =
    if s.condMet (jfCond form) = true then
      withValue (s.slotCheck ⟨false, false⟩ (jfKind form) (some (s.returnTarget (jfLink2 form)))) fun free =>
        s.retire ⟨false, false⟩
          { transfer := some (s.returnTarget (jfLink2 form), jfDelayed form), lpCountFree := free,
            dslotForm := jfDelayed form }
          (s.restoreStatus (jfLink2 form))
    else
      withValue (s.slotCheck ⟨false, false⟩ (jfKind form) none) fun _ =>
        s.retire ⟨false, false⟩ { dslotForm := jfDelayed form } s := by
  simp only [runReturn, jfKind, hn.start_eq, hp, hfl, hsr, Bool.or_self, cond_eq_ite, Bool.false_eq_true, if_false]

/-- Settles O40: the status comes from the save register of the link register that is named. -/
theorem returnCompletes : Obligations.ReturnCompletes := by
  intro form s l d kind hn hp hfl hsr hl holds returns
  have hd : jfDelayed form = d := by cases form <;> rfl
  have hkind : jfKind form = kind := by cases form <;> rfl
  have hholds : s.condMet (jfCond form) = holds := by cases form <;> rfl
  have heq := runReturn_eq (form := form) hn hp hfl hsr
  rw [hd, hkind, hholds] at heq
  have hreturns : returns (bif jfLink2 form then s.statusL2 else s.statusL1) (s.reg (bif jfLink2 form then 30 else 29)) := by
    intro free hc hf
    calc exec (.j_f form) s
        = s.retire l { transfer := some (s.returnTarget (jfLink2 form), d), lpCountFree := free, dslotForm := d }
            (s.restoreStatus (jfLink2 form)) := by
          rw [if_pos hc] at heq
          exact heq.trans (congrArg (withValue · _) hf)
      _ = _ := by rw [hl.retire_eq rfl rfl, State.restoreStatus, setStatus_eq]; rfl
  refine ⟨?_, fun free hc hf => ?_⟩
  · cases form with
    | c link2 | ccc link2 => cases link2 <;> exact hreturns
  · rw [if_neg (ne_true_of_eq_false hc)] at heq
    exact (heq.trans (congrArg (withValue · _) hf)).trans (hl.retire_eq rfl rfl s)

/-! ### LP -/

/-- Past the checks that do not depend on the new loop, LP sets it up or branches over it. -/
theorem runLp_eq {form : LpForm} (hn : s.NoHazard ⟨false, false⟩ none) (hp : s.prevDslot = false)
    (hb : s.lpBarred ⟨false, false⟩ = false) : runLp form s =
    if s.condMet (lpCond form) = true then
      if s.loopTooShort (s.pc + 4#32) (s.pcl + lpDisp form) = true then .refused .loopTooShort
      else s.retire ⟨false, false⟩ {} { s with lpStart := s.pc + 4#32, lpEnd := s.pcl + lpDisp form }
    else s.retire ⟨false, false⟩ { transfer := some (s.pcl + lpDisp form, false) } s := by
  simp only [runLp, hn.start_eq, hp, hb, cond_eq_ite, Bool.false_eq_true, if_false]
  rfl

/-- Settles O41: with its slot, its condition and the length of the loop settled, LP completes. -/
theorem lpCompletes : Obligations.LpCompletes := by
  intro form s l stop holds hn hp hb hl
  have hstop : s.pcl + lpDisp form = stop := by
    cases form with
    | s13 d => exact congrArg (s.pcl + ·) (simm_one d)
    | ccu7 u q => exact congrArg (s.pcl + ·) (uimm_one u)
  have hholds : s.condMet (lpCond form) = holds := by cases form <;> rfl
  have heq := runLp_eq (form := form) hn hp hb
  rw [hstop, hholds] at heq
  refine ⟨fun hc hlong => ?_, fun hc => ?_⟩
  · rw [if_pos hc, hlong, if_neg Bool.false_ne_true, hl.retire_eq rfl rfl] at heq
    exact heq
  · rw [if_neg (ne_true_of_eq_false hc), hl.retire_eq rfl rfl] at heq
    exact heq

end Sys2Proof.Machine
end

section
/-! Slots of a loop where a branch, a jump, J.F, LP or SR may not stand (43_branch_jump_loop.md R427, Tables 5.12 to 5.14). -/

namespace Sys2Proof.Machine

variable {s : State} {l : Len} {k : BranchKind} {slot : Nat} {target : Option Word}

/-! ### The table -/

theorem mark_of_three_le (h : 3 ≤ slot) : k.mark slot = .free := by
  obtain ⟨n, rfl⟩ := Nat.exists_eq_add_of_le' h
  cases k <;> rfl

theorem mark_eq_barred_iff : k.mark slot = .barred ↔
    (slot = 0 ∧ k ≠ .plain ∧ k ≠ .cmp) ∨ (slot = 1 ∧ (k = .linkDelayed ∨ k = .jumpLinkLimm)) := by
  match slot with
  | 0 | 1 | 2 => cases k <;> simp [BranchKind.mark]
  | n + 3 => simp [mark_of_three_le]

theorem mark_eq_barredInside_iff : k.mark slot = .barredInside ↔
    (slot = 0 ∧ (k = .plain ∨ k = .cmp)) ∨ (slot = 1 ∧ (k = .delayed ∨ k = .cmpDelayed ∨ k = .jumpLimm)) := by
  match slot with
  | 0 | 1 | 2 => cases k <;> simp [BranchKind.mark]
  | n + 3 => simp [mark_of_three_le]

theorem mark_eq_exitUnpredictable_iff : k.mark slot = .exitUnpredictable ↔
    (slot = 1 ∧ (k = .plain ∨ k = .cmp)) ∨ (slot = 2 ∧ (k = .cmp ∨ k = .cmpDelayed)) := by
  match slot with
  | 0 | 1 | 2 => cases k <;> simp [BranchKind.mark]
  | n + 3 => simp [mark_of_three_le]

/-! ### The check -/

theorem insideLoop_iff {t : Word} :
    s.insideLoop t = true ↔ s.lpStart.toNat ≤ t.toNat ∧ t.toNat < s.lpEnd.toNat := by
  rw [State.insideLoop, Bool.and_eq_true, decide_eq_true_iff, decide_eq_true_iff]

/-- What the check answers in a slot of a loop, mark by mark. -/
theorem slotCheck_eq (h : s.loopSlotOf l = some slot) : s.slotCheck l k target =
    if k.mark slot = .barred ∨ (k.mark slot = .barredInside ∧ target.any s.insideLoop = true) then .error .loopSlot
    else .ok (k.mark slot == .exitUnpredictable && target.any fun t => !s.insideLoop t) := by
  simp only [State.slotCheck, h]
  generalize k.mark slot = m
  cases target with
  | none => cases m <;> rfl
  | some t =>
    cases m with
    | free | barred | exitUnpredictable => rfl
    | barredInside => cases ht : s.insideLoop t <;> simp [ht]

theorem slotCheck_error_iff (h : s.loopSlotOf l = some slot) : s.slotCheck l k target = .error .loopSlot ↔
    k.mark slot = .barred ∨ (k.mark slot = .barredInside ∧ ∃ t, target = some t ∧ s.insideLoop t = true) := by
  rw [slotCheck_eq h, ← Option.any_eq_true]
  split
  · next hm => exact iff_of_true rfl hm
  · next hm => exact iff_of_false nofun hm

theorem eq_loopSlot_of_slotCheck_error (h : s.loopSlotOf l = some slot) {r : Refusal}
    (he : s.slotCheck l k target = .error r) : r = .loopSlot := by
  rw [slotCheck_eq h] at he
  split at he
  · exact (Except.error.inj he).symm
  · cases he

theorem slotCheck_ok_true_iff (h : s.loopSlotOf l = some slot) : s.slotCheck l k target = .ok true ↔
    (∃ t, target = some t) ∧ (¬ ∃ t, target = some t ∧ s.insideLoop t = true) ∧ k.mark slot = .exitUnpredictable := by
  rw [slotCheck_eq h]
  split
  · next hm =>
    refine iff_of_false nofun fun ⟨_, _, hexit⟩ => ?_
    simp [hexit] at hm
  · cases target <;> simp [and_comm]

theorem lpBarred_iff (h : s.loopSlotOf l = some slot) : s.lpBarred l = true ↔ slot < 2 := by
  rw [State.lpBarred, h, decide_eq_true_iff]

theorem srBarred_iff (h : s.loopSlotOf l = some slot) (a : Word) :
    s.srBarred l a = true ↔ (a = 2#32 ∨ a = 3#32) ∧ slot < 3 := by
  simp [State.srBarred, isLoopBound, h]

/-! ### The instructions -/

section Branch

variable {x : BranchArgs} {r : Refusal} (hn : s.NoHazard x.len none) (hp : s.prevDslot = false)

include hn hp

theorem runBranch_taken_refused {t : Word} (ht : s.branchTaken x = .ok true) (hg : s.branchTarget x = .ok t)
    (he : s.slotCheck x.len x.kind (some t) = .error r) : runBranch x s = .refused r := by
  rw [runBranch, hn.start_eq, hp, cond_false, ht, hg, withValue_ok, cond_true, withValue_ok, he, withValue_error]

theorem runBranch_not_taken_refused (ht : s.branchTaken x = .ok false) (he : s.slotCheck x.len x.kind none = .error r) :
    runBranch x s = .refused r := by
  rw [runBranch, hn.start_eq, hp, cond_false, ht, withValue_ok, cond_false, he, withValue_error]

end Branch

theorem runLp_barred {form : LpForm} (hn : s.NoHazard ⟨false, false⟩ none) (hp : s.prevDslot = false)
    (hb : s.lpBarred ⟨false, false⟩ = true) : runLp form s = .refused .loopSlot := by
  rw [runLp, hn.start_eq, hp, hb, cond_false, cond_true]

theorem runSr_barred {x : DataArgs} {v a : Word} (hn : s.NoHazard x.len none) (hv : s.value1 x = .ok v)
    (ha : s.value x.len 1 x.src2 = .ok a) (hbound : isLoopBound a = true) (hb : s.srBarred x.len a = true) :
    runSr x s = .refused .loopSlot := by
  have hne : (a == 0x12#32) = false := by
    rw [isLoopBound, Bool.or_eq_true, beq_iff_eq, beq_iff_eq] at hbound
    obtain rfl | rfl := hbound <;> rfl
  simp only [runSr, hn.start_eq, hv, ha, withValue_ok, hne, hb, Bool.false_and, cond_false, cond_true]

/-- J.F is refused by the check of its slot, with the target it has when its condition holds (R401). -/
theorem runReturn_refused {form : JFForm} {r : Refusal} (hn : s.NoHazard ⟨false, false⟩ none) (hp : s.prevDslot = false)
    (hfl : s.prevFlag = false) (hsr : s.prevSrStatusL = false)
    (he : s.slotCheck ⟨false, false⟩ (jfKind form)
      (if s.condMet (jfCond form) = true then some (s.returnTarget (jfLink2 form)) else none) = .error r) :
    runReturn form s = .refused r := by
  rw [runReturn_eq hn hp hfl hsr]
  split at he
  · next hc => rw [if_pos hc, he, withValue_error]
  · next hc => rw [if_neg hc, he, withValue_error]

/-- Settles O44: the check of a slot is read off the table, and each kind of instruction is refused when it fails. -/
theorem loopSlotStops : Obligations.LoopSlotStops := by
  unfold Obligations.LoopSlotStops
  intro barred barredInside inside
  have hbarred {k : BranchKind} {slot : Nat} : k.mark slot = .barred ↔ barred k slot := mark_eq_barred_iff
  have hbarredInside {k : BranchKind} {slot : Nat} : k.mark slot = .barredInside ↔ barredInside k slot :=
    mark_eq_barredInside_iff
  have hinside {s : State} {t : Word} : s.insideLoop t = true ↔ inside s t := insideLoop_iff
  have herror {s : State} {l : Len} {k : BranchKind} {slot : Nat} {target : Option Word} (h : s.loopSlotOf l = some slot) :
      s.slotCheck l k target = .error .loopSlot ↔
        barred k slot ∨ (barredInside k slot ∧ ∃ t, target = some t ∧ inside s t) := by
    rw [slotCheck_error_iff h, hbarred, hbarredInside]
    simp only [hinside]
  refine ⟨?table, ?branch, ?ret, ?lp, ?sr⟩
  case table =>
    intro s l k slot target h within
    refine ⟨herror h, fun r => eq_loopSlot_of_slotCheck_error h, ?_, lpBarred_iff h, srBarred_iff h⟩
    rw [slotCheck_ok_true_iff h, mark_eq_exitUnpredictable_iff]
    simp only [hinside]
    rfl
  case branch =>
    intro i x s slot hx hn hp h
    rw [exec_eq_runBranch hx]
    refine ⟨fun t ht hg hm => runBranch_taken_refused hn hp ht hg ((herror h).2 (hm.imp_right ?_)), fun ht hm =>
      runBranch_not_taken_refused hn hp ht ((herror h).2 (.inl hm))⟩
    exact fun ⟨hkind, ht⟩ => ⟨hkind, t, rfl, ht⟩
  case ret =>
    intro form s slot d link holds hn hp hfl hsr h hstop
    have hd : jfDelayed form = d := by cases form <;> rfl
    have hholds : s.condMet (jfCond form) = holds := by cases form <;> rfl
    have hlink : s.returnTarget (jfLink2 form) = link &&& 0xFFFFFFFE#32 := by
      cases form with
      | c link2 | ccc link2 => cases link2 <;> rfl
    refine runReturn_refused hn hp hfl hsr ((herror h).2 ?_)
    rw [hholds, hlink, jfKind]
    rw [← hd] at hstop
    obtain ⟨hdelayed, rfl⟩ | ⟨hc, hin, hslot⟩ := hstop
    · rw [if_pos hdelayed]
      exact .inl (.inl ⟨rfl, nofun, nofun⟩)
    · have hwithin : ∃ t, (if holds = true then some (link &&& 0xFFFFFFFE#32) else none) = some t ∧ inside s t :=
        ⟨_, if_pos hc, hin⟩
      obtain rfl | ⟨hdelayed, rfl⟩ := hslot
      · by_cases hdelayed : jfDelayed form = true
        · rw [if_pos hdelayed]
          exact .inl (.inl ⟨rfl, nofun, nofun⟩)
        · rw [if_neg hdelayed]
          exact .inr ⟨.inl ⟨rfl, .inl rfl⟩, hwithin⟩
      · rw [if_pos hdelayed]
        exact .inr ⟨.inr ⟨rfl, .inl rfl⟩, hwithin⟩
  case lp =>
    intro form s slot hn hp h hslot
    exact runLp_barred hn hp ((lpBarred_iff h).2 hslot)
  case sr =>
    intro form s v a slot x hn hv ha hbound h hslot
    have hb : isLoopBound a = true := by rwa [isLoopBound, Bool.or_eq_true, beq_iff_eq, beq_iff_eq]
    exact runSr_barred hn hv ha hb ((srBarred_iff h a).2 ⟨hbound, hslot⟩)

end Sys2Proof.Machine
end

section
/-! Loops that are too short or were set up too late (43_branch_jump_loop.md R426; 70_reset_and_hazards.md R652, R653). -/

namespace Sys2Proof

open Machine

namespace Machine

variable {s : State} {l : Len}

/-! ### LP for a loop of fewer than two instruction words -/

theorem loopTooShort_of_lt {start stop n : Word} (hw : s.twoWords start = some n) (hne : stop ≠ start)
    (hlt : (stop - start).toNat < n.toNat) : s.loopTooShort start stop = true := by
  have hult : (stop - start).ult n = true := decide_eq_true hlt
  simp only [State.loopTooShort, hw, bne_iff_ne.2 hne, hult, Bool.and_self]

theorem twoWords_of_limm {start : Word} (h : s.lenAt start = some l) (hlimm : l.limm = true) :
    s.twoWords start = some l.bytes := by
  simp only [State.twoWords, h, hlimm, cond_true]

theorem twoWords_of_two {start : Word} {m : Len} (h : s.lenAt start = some l) (hlimm : l.limm = false)
    (hm : s.lenAt (start + l.bytes) = some m) : s.twoWords start = some (l.bytes + m.base) := by
  simp only [State.twoWords, h, hlimm, hm, cond_false]

theorem twoWords_of_unknown {start : Word} (h : s.lenAt start = some l) (hlimm : l.limm = false)
    (hm : s.lenAt (start + l.bytes) = none) : s.twoWords start = some (l.bytes + 2#32) := by
  simp only [State.twoWords, h, hlimm, hm, cond_false]

/-- An instruction is at most 8 bytes long (30_encoding.md R133). -/
theorem toNat_bytes_le (l : Len) : l.bytes.toNat ≤ 8 := by
  obtain ⟨short, limm⟩ := l
  cases short <;> cases limm <;> decide

theorem toNat_base_le (l : Len) : l.base.toNat ≤ 4 := by
  obtain ⟨short, limm⟩ := l
  cases short <;> exact Nat.le_of_ble_eq_true rfl

/-- The length of a first instruction and of a second word does not wrap around. -/
theorem toNat_bytes_add (l : Len) {w : Word} (hw : w.toNat ≤ 4) : (l.bytes + w).toNat = l.bytes.toNat + w.toNat := by
  have hl := toNat_bytes_le l
  rw [BitVec.toNat_add, Nat.mod_eq_of_lt (by omega)]

/-! ### Completion at the end of a loop -/

theorem nextLpcAge_lt_iff (s : State) (l : Len) (e : Ending) :
    s.nextLpcAge l e < 4 ↔ e.wroteLpCount = true ∨ s.lpcAge + l.words < 4 := by
  cases h : e.wroteLpCount <;> simp [State.nextLpcAge, h]

theorem nextLpseAge_lt_iff (s : State) (l : Len) (e : Ending) :
    s.nextLpseAge l e < 3 ↔ e.wroteLoopBounds = true ∨ s.lpseAge + l.words < 3 := by
  cases h : e.wroteLoopBounds <;> simp [State.nextLpseAge, h]

theorem retire_of_countTooLate {e : Ending} {t : State} (hl : s.npc l = s.lpEnd)
    (h : e.wroteLpCount = true ∨ s.lpcAge + l.words < 4) : s.retire l e t = .refused .loopCountTooLate := by
  have hlast : s.atLoopEnd l = true := beq_iff_eq.2 hl
  rw [State.retire, hlast, decide_eq_true ((nextLpcAge_lt_iff s l e).2 h), Bool.and_self, cond_true]

theorem retire_of_boundsTooLate {e : Ending} {t : State} (hl : s.npc l = s.lpEnd) (hc : e.wroteLpCount = false)
    (hage : 4 ≤ s.lpcAge + l.words) (h : e.wroteLoopBounds = true ∨ s.lpseAge + l.words < 3) :
    s.retire l e t = .refused .loopBoundsTooLate := by
  have hlast : s.atLoopEnd l = true := beq_iff_eq.2 hl
  have hcount : ¬ s.nextLpcAge l e < 4 := by
    rw [nextLpcAge_lt_iff, hc]
    exact not_or.2 ⟨Bool.false_ne_true, Nat.not_lt.2 hage⟩
  rw [State.retire, hlast, decide_eq_false hcount, decide_eq_true ((nextLpseAge_lt_iff s l e).2 h), Bool.and_false,
    cond_false, Bool.and_self, cond_true]

/-- A data instruction whose condition is true and whose operands are read completes through `State.retire`. -/
theorem exists_runData_eq_retire {op : DataOp} {x : DataArgs} {a b : Word} (hn : s.NoHazard x.len (dataNeeds op))
    (hc : s.condMet x.cond = true) (ha : s.value1 x = .ok a) (hb : s.value x.len 1 x.src2 = .ok b) :
    ∃ u, runData op x s = s.retire x.len { wroteLpCount := x.dest == some 60#6 } u := by
  rw [runData, hn.start_eq, hc, cond_true, ha, withValue_ok, hb, withValue_ok]
  exact ⟨_, rfl⟩

/-! ### Every instruction takes an exception or completes through `State.retire` -/

/-- A result that gives a next state only by an exception or by the completion of an instruction of the length `l`. -/
structure State.Completes (s : State) (l : Len) (r : Result) : Prop where
  of_next : ∀ t, r = .next t →
    (∃ vec ret, (vec = 1 ∨ vec = 2) ∧ t = s.enter .two vec ret) ∨ ∃ e u, s.retire l e u = .next t

namespace State.Completes

theorem refused (r : Refusal) : s.Completes l (.refused r) := ⟨fun _ h => nomatch h⟩

theorem retired (e : Ending) (u : State) : s.Completes l (s.retire l e u) := ⟨fun _ h => .inr ⟨e, u, h⟩⟩

theorem memoryError (ret : Word) : s.Completes l (.next (s.memoryError ret)) :=
  ⟨fun _ h => .inl ⟨1, ret, .inl rfl, (Host.Outcome.next.inj h).symm⟩⟩

theorem instructionError (ret : Word) : s.Completes l (.next (s.instructionError ret)) :=
  ⟨fun _ h => .inl ⟨2, ret, .inr rfl, (Host.Outcome.next.inj h).symm⟩⟩

theorem ite {c : Bool} {r r' : Result} (h : s.Completes l r) (h' : s.Completes l r') :
    s.Completes l (bif c then r else r') := by
  cases c with
  | true => exact h
  | false => exact h'

theorem bind {α : Type} {x : Except Refusal α} {k : α → Result} (h : ∀ a, s.Completes l (k a)) :
    s.Completes l (withValue x k) := by
  cases x with
  | error r => exact refused r
  | ok a => exact h a

theorem started {o : Option Opt} {k : Result} (h : s.Completes l k) : s.Completes l (s.start l o k) :=
  .ite (refused _) (.ite (instructionError _) (.ite (refused _) h))

theorem runData {op : DataOp} {x : DataArgs} (hl : x.len = l) : s.Completes l (runData op x s) := by
  subst hl
  exact .started (.ite (.bind fun _ => .bind fun _ => retired ..) (retired ..))

theorem runMul {sgn : Bool} {x : DataArgs} (hl : x.len = l) : s.Completes l (runMul sgn x s) := by
  subst hl
  exact .started (.ite (.bind fun _ => .bind fun _ => retired ..) (retired ..))

theorem runLoad {sgn : Bool} {dest : Reg} {x : MemArgs} (hl : x.len = l) : s.Completes l (runLoad sgn dest x s) := by
  subst hl
  exact .started (.ite (refused _) (.bind fun _ => .bind fun _ =>
    .ite (refused _) (.ite (memoryError _) (retired ..))))

theorem runStore {data : Operand} {x : MemArgs} (hl : x.len = l) : s.Completes l (runStore data x s) := by
  subst hl
  exact .started (.bind fun _ => .bind fun _ => .bind fun _ => .ite (refused _) (.ite (memoryError _) (retired ..)))

theorem runBranch {x : BranchArgs} (hl : x.len = l) : s.Completes l (runBranch x s) := by
  subst hl
  exact .started (.ite (refused _) (.bind fun _ =>
    .ite (.bind fun _ => .bind fun _ => retired ..) (.bind fun _ => retired ..)))

theorem runReturn (form : JFForm) : s.Completes ⟨false, false⟩ (runReturn form s) :=
  .started (.ite (refused _) (.ite (refused _) (.ite (.bind fun _ => retired ..) (.bind fun _ => retired ..))))

theorem runLp (form : LpForm) : s.Completes ⟨false, false⟩ (runLp form s) :=
  .started (.ite (refused _) (.ite (refused _) (.ite (.ite (refused _) (retired ..)) (retired ..))))

theorem runFlag {x : DataArgs} (hl : x.len = l) : s.Completes l (runFlag x s) := by
  subst hl
  exact .started (.ite (.bind fun _ => retired ..) (retired ..))

theorem runLr {x : DataArgs} (hl : x.len = l) : s.Completes l (runLr x s) := by
  subst hl
  exact .started (.bind fun _ => retired ..)

theorem runSr {x : DataArgs} (hl : x.len = l) : s.Completes l (runSr x s) := by
  subst hl
  exact .started (.bind fun _ => .bind fun _ => .ite (refused _) (.ite (refused _) (retired ..)))

theorem runSleep (l : Len) : s.Completes l (runSleep l s) := .started (.ite (refused _) (retired ..))

theorem runSwi (l : Len) : s.Completes l (runSwi l s) :=
  .started (.ite (refused _) (.ite (refused _) (instructionError _)))

theorem runNop (l : Len) : s.Completes l (runNop l s) := retired ..

end State.Completes

end Machine

/-- Every instruction but BRK_S gives a next state only by an exception or by its completion. -/
theorem Shape.run_completes {v : Shape} (hv : v ≠ .brk) (s : State) : s.Completes v.len (v.run s) := by
  cases v with
  | alu op form => exact .runData (genArgs_len form)
  | test op form => exact .runData (cmpArgs_len form)
  | mov form => exact .runData (movArgs_len form)
  | sop op form => exact .runData (sopArgs_len form)
  | data16 form => exact .runData form.args_len
  | mul sgn form => exact .runMul (cmpArgs_len form)
  | mul16 => exact .runMul rfl
  | load kind form => exact .runLoad (ldArgs_len _ form)
  | load16 form => exact .runLoad form.args_len
  | store => exact .runStore rfl
  | store16 form => exact .runStore form.args_len
  | jump | jumpD | bcc | bfar | blcc | bl | br | ctl16 => exact .runBranch (Shape.len_of_branchArgs rfl)
  | jumpF form => exact .runReturn form
  | lp form => exact .runLp form
  | flag form => exact .runFlag (jArgs_len form)
  | lr form => exact .runLr (lrArgs_len form)
  | sr form => exact .runSr (srArgs_len form)
  | nop | nop16 => exact .runNop _
  | sleep => exact .runSleep _
  | swi => exact .runSwi _
  | brk => exact absurd rfl hv

namespace Machine

/-- Settles O45: LP counts the words of the new loop, and what completes at the end of a loop does so through `State.retire`. -/
theorem loopSetupStops : Obligations.LoopSetupStops := by
  refine ⟨?lp, ?retire, ?alu, ?every⟩
  case lp =>
    intro form s first l start stop holds hn hp hb hc hne hfirst
    have hstop : s.pcl + lpDisp form = stop := by
      cases form with
      | s13 d => exact congrArg (s.pcl + ·) (simm_one d)
      | ccu7 u q => exact congrArg (s.pcl + ·) (uimm_one u)
    have hholds : s.condMet (lpCond form) = holds := by cases form <;> rfl
    have hshort {n : Word} (hw : s.twoWords start = some n) (hlt : (stop - start).toNat < n.toNat) :
        exec (.lp form) s = .refused .loopTooShort := by
      have heq := runLp_eq (form := form) hn hp hb
      rw [hstop, hholds, if_pos hc, if_pos (loopTooShort_of_lt hw hne hlt)] at heq
      exact heq
    refine ⟨fun hlimm hlt => ?_, fun hlimm second hsecond hlt => ?_, fun hlimm hnone hlt => ?_⟩
    · exact hshort (twoWords_of_limm hfirst hlimm) hlt
    · refine hshort (twoWords_of_two hfirst hlimm hsecond) ?_
      rwa [toNat_bytes_add first (toNat_base_le second)]
    · refine hshort (twoWords_of_unknown hfirst hlimm hnone) ?_
      rwa [toNat_bytes_add first (by decide)]
  case retire =>
    exact fun s t l e hl => ⟨retire_of_countTooLate hl, retire_of_boundsTooLate hl⟩
  case alu =>
    intro op form s a b x hn hc ha hb hl
    obtain ⟨u, hu⟩ := exists_runData_eq_retire (op := .alu op) hn hc ha hb
    have hexec : exec (Instr.ofAlu op form) s = s.retire x.len { wroteLpCount := form.dest == 60#6 } u := by
      rw [genArgs_dest] at hu
      exact (exec_ofShape (.alu op form) s).trans hu
    rw [hexec]
    exact ⟨fun h => retire_of_countTooLate hl (h.imp_left beq_iff_eq.2), fun hd hage h =>
      retire_of_boundsTooLate hl (beq_false_of_ne hd) hage (.inr h)⟩
  case every =>
    intro i s t h hl hage
    obtain hbrk | hbrk := eq_or_ne i.shape .brk
    · exact .inl (Instr.eq_of_shape_eq hbrk)
    · right
      rw [exec_eq_run] at h
      obtain ⟨vec, ret, hvec, rfl⟩ | ⟨e, u, hu⟩ := (Shape.run_completes hbrk s).of_next t h
      · exact ⟨vectorAddr_of_exception s hvec, rfl, rfl, rfl⟩
      · have hend : s.npc i.shape.len = s.lpEnd := by rwa [State.npc, Shape.bytes_len]
        have hwords : i.shape.len.words = if i.hasLimm = true then 2 else 1 := cond_eq_ite ..
        obtain ⟨hready, -⟩ := retire_next hu
        obtain ⟨-, hcount⟩ := hready.count hend
        obtain ⟨-, hbounds⟩ := hready.bounds hend
        rw [← hwords] at hage
        omega

end Machine

end Sys2Proof
end

section
/-! Loads: the address of an access (44_load_store.md R444), the value a load takes (R442), and the loads that complete (R440,
R441, R447, R450 to R455). -/

namespace Sys2Proof

open Machine

theorem Ld16.dest_lt_32 (form : Ld16) : form.dest.toNat < 32 := by
  cases form with
  | gp => exact (by decide : (0#6).toNat < 32)
  | popBlink => decide
  | _ => exact reg16_lt_32 _

/-- A 16-bit load writes back no register but SP. -/
theorem Ld16.wbWritesLpCount_eq_false (form : Ld16) (w : Option Word) : wbWritesLpCount form.args.wb w = false := by
  cases form <;> rfl

namespace Machine

variable {s : State}

/-! ### The address of an access -/

/-- The alignment of a data access (20_memory.md R93). -/
theorem isAligned_iff (sz : Size) (a : Word) : isAligned sz a = true ↔ a.toNat % sizeBytes sz = 0 := by
  cases sz with
  | byte => simp [isAligned, sizeBytes, Nat.mod_one]
  | half | long => simp [isAligned, sizeBytes, ← BitVec.toNat_inj]

/-- The scaled mode of a long word. -/
theorem effAddr_scaled_long (base off : Word) : effAddr .long base off 0b11#2 = (base + 4 * off, none) := by
  have hscale : off <<< 2 = 4 * off := by simpa only [uimm, BitVec.setWidth_eq] using uimm_two off
  rw [← hscale]
  rfl

/-- The scaled mode of a word. -/
theorem effAddr_scaled_half (base off : Word) : effAddr .half base off 0b11#2 = (base + 2 * off, none) := by
  have hscale : off <<< 1 = 2 * off := by simpa only [uimm, BitVec.setWidth_eq] using uimm_one off
  rw [← hscale]
  rfl

/-! ### The value a load takes -/

/-- The low part of a word taken with its sign, from the number of the word. -/
theorem toInt_signExtend_extractLsb'_eq_bmod_toNat (v : Word) {n : Nat} (hn : n ≤ 32) :
    ((v.extractLsb' 0 n).signExtend 32).toInt = (v.toNat : Int).bmod (2 ^ n) := by
  rw [BitVec.toInt_signExtend_of_le hn, BitVec.toInt_eq_toNat_bmod, BitVec.extractLsb'_toNat, Nat.shiftRight_zero,
    Int.natCast_emod, Int.emod_bmod]

/-- Settles O31: the modes of an address one by one, and a datum as the sum of its bytes, taken with its sign or without. -/
theorem addressAndLoadedValue : Obligations.AddressAndLoadedValue := by
  refine ⟨fun sz base off => ⟨rfl, rfl, rfl, effAddr_scaled_long base off, effAddr_scaled_half base off⟩, ?_⟩
  intro s a byte
  have hbyte : (s.readData .byte a).toNat = byte 0 := by
    simp [toNat_readData, sizeBytes, byte]
  have hhalf : (s.readData .half a).toNat = byte 0 + 2 ^ 8 * byte 1 := by
    simp [toNat_readData, sizeBytes, Finset.sum_range_succ, byte]
  have hlong : (s.readData .long a).toNat = byte 0 + 2 ^ 8 * byte 1 + 2 ^ 16 * byte 2 + 2 ^ 24 * byte 3 := by
    simp [toNat_readData, sizeBytes, Finset.sum_range_succ, byte]
  refine ⟨hbyte, hhalf, hlong, ?signedByte, ?signedHalf⟩
  case signedByte =>
    rw [← hbyte]
    exact toInt_signExtend_extractLsb'_eq_bmod_toNat (n := 8) _ (by decide)
  case signedHalf =>
    have hcast : ((byte 0 + 2 ^ 8 * byte 1 : Nat) : Int) = byte 0 + 2 ^ 8 * byte 1 := by push_cast; rfl
    rw [← hcast, ← hhalf]
    exact toInt_signExtend_extractLsb'_eq_bmod_toNat (n := 16) _ (by decide)

/-! ### The 32-bit loads -/

/-- Loads of an aligned address in valid memory (44_load_store.md R440, R447). -/
theorem runLoad_completes {sgn : Bool} {dest : Reg} {x : MemArgs} {base off addr : Word} {w : Option Word}
    (hd : dest ≠ 60#6) (hn : s.NoHazard x.len none) (hl : s.LoopReady x.len (wbWritesLpCount x.wb w) false)
    (hb : s.value x.len 0 x.base = .ok base) (ho : s.value x.len 1 x.offset = .ok off)
    (hea : effAddr x.size base off x.aa = (addr, w)) (ha : addr.toNat % sizeBytes x.size = 0)
    (hv : s.validFrom .load addr (sizeBytes x.size) = true) :
    runLoad sgn dest x s = .next (s.ended x.len { wroteLpCount := wbWritesLpCount x.wb w }
      { ((s.afterReads [x.base, x.offset]).writeBack x.wb w).writeCore dest
          (extendLoad x.size sgn (s.readData x.size addr)) with
        loadSeen := true }) := by
  have hne : (dest == 60#6) = false := beq_false_of_ne hd
  simp only [runLoad, hn.start_eq, hne, cond_false, hb, ho, withValue_ok, hea, (isAligned_iff _ _).2 ha, hv, Bool.not_true]
  rw [hl.retire_eq rfl rfl]

/-- Settles O30: the two formats are one shared load. -/
theorem loadCompletes : Obligations.LoadCompletes := by
  intro kind form s base off x ea count _ hd hn hl hb ho ha hv
  have hsize : x.size = ldSize kind := by cases form <;> rfl
  calc exec (Instr.ofLoad kind form) s
      = runLoad (ldSigned kind) (ldDest form) x s := exec_ofShape (.load kind form) s
    _ = _ := runLoad_completes hd hn hl hb ho (by rw [hsize]) (by rwa [hsize]) (by rwa [hsize])
    _ = _ := by rw [hsize]

/-! ### The 16-bit loads -/

theorem State.Reads.afterReads_pair {o₁ o₂ : Operand} {a b : Word} (ha : s.Reads o₁ a) (hb : s.Reads o₂ b) :
    s.afterReads [o₁, o₂] = s := by
  rw [ha.afterReads, hb.afterReads, afterReads_nil]

theorem reads_simm_zero (s : State) {w : Nat} (d : BitVec w) : s.Reads (.imm (simm d 0)) (d.signExtend 32) := by
  have hzero : simm d 0 = d.signExtend 32 := BitVec.shiftLeft_zero _
  rw [← hzero]
  exact reads_imm s _

theorem reads_simm_one (s : State) {w : Nat} (d : BitVec w) : s.Reads (.imm (simm d 1)) (2 * d.signExtend 32) := by
  rw [← simm_one]
  exact reads_imm s _

theorem reads_uimm_one (s : State) {w : Nat} (u : BitVec w) : s.Reads (.imm (uimm u 1)) (2 * u.setWidth 32) := by
  rw [← uimm_one]
  exact reads_imm s _

theorem reads_rSP (s : State) : s.Reads (.reg rSP 0#32) (s.reg 28) := reads_reg s 0#32 (by decide)

theorem reads_rGP (s : State) : s.Reads (.reg rGP 0#32) (s.reg 26) := reads_reg s 0#32 (by decide)

theorem writeCore_rSP (s : State) (v : Word) : s.writeCore rSP v = s.setReg 28 v := writeCore_of_lt_32 s v (by decide)

/-- r63 is the aligned pc (10_state.md R28). -/
theorem reads_pcl (s : State) : s.Reads (.reg 63#6 0#32) s.pcl :=
  ⟨fun l slot => readCore_63 s l slot 0#32, fun os => by simp [State.afterReads, Operand.isMul, isMulReg]⟩

/-- A 16-bit load, from what its operands read and the address they give. -/
theorem exec_load16 (form : Ld16) {base off addr : Word} {w : Option Word} {u : State} (hb : s.Reads form.args.base base)
    (ho : s.Reads form.args.offset off) (hea : effAddr form.args.size base off form.args.aa = (addr, w))
    (hw : s.writeBack form.args.wb w = u) (hn : s.NoHazard len16 none) (hl : s.LoopReady len16 false false)
    (ha : addr.toNat % sizeBytes form.args.size = 0) (hv : s.validFrom .load addr (sizeBytes form.args.size) = true) :
    exec (Instr.ofShape (.load16 form)) s = .next (s.ended len16 {}
      { u.setReg form.dest.toNat (extendLoad form.args.size form.signed (s.readData form.args.size addr)) with
        loadSeen := true }) := by
  have hd : form.dest ≠ 60#6 := fun h => absurd (h ▸ form.dest_lt_32) (by decide)
  have hlen := form.args_len
  have hcount := form.wbWritesLpCount_eq_false w
  have hrun := runLoad_completes (sgn := form.signed) hd (hlen ▸ hn) (hlen ▸ hcount ▸ hl) (hb.value _ 0)
    (ho.value _ 1) hea ha hv
  rw [exec_ofShape, Shape.run, hrun, hlen, hcount, hb.afterReads_pair ho, hw, writeCore_of_lt_32 _ _ (form.dest_lt_32)]

/-- Settles O32: each form with the operands it reads. -/
theorem load16Completes : Obligations.Load16Completes := by
  intro s a b c u5 u8 s9 hn hl x y z loads
  have hreg := reads_op16 s
  have hsp := reads_rSP s
  have hgp := reads_rGP s
  have hu0 := reads_uimm_zero s u5
  have hu1 := reads_uimm_one s u5
  have hu2 := reads_uimm_two s u5
  exact ⟨exec_load16 (.abc .long a b c) (hreg b) (hreg c) rfl rfl hn hl,
    exec_load16 (.abc .byte a b c) (hreg b) (hreg c) rfl rfl hn hl,
    exec_load16 (.abc .half a b c) (hreg b) (hreg c) rfl rfl hn hl,
    exec_load16 (.cbu .long c b u5) (hreg b) hu2 rfl rfl hn hl,
    exec_load16 (.cbu .byte c b u5) (hreg b) hu0 rfl rfl hn hl,
    exec_load16 (.cbu .half c b u5) (hreg b) hu1 rfl rfl hn hl,
    exec_load16 (.cbuX c b u5) (hreg b) hu1 rfl rfl hn hl,
    exec_load16 (.sp false b u5) hsp hu2 rfl rfl hn hl,
    exec_load16 (.sp true b u5) hsp hu2 rfl rfl hn hl,
    exec_load16 (.gp .long s9) hgp (reads_simm_two s s9) rfl rfl hn hl,
    exec_load16 (.gp .byte s9) hgp (reads_simm_zero s s9) rfl rfl hn hl,
    exec_load16 (.gp .half s9) hgp (reads_simm_one s s9) rfl rfl hn hl,
    exec_load16 (.pcl b u8) (reads_pcl s) (reads_uimm_two s u8) rfl rfl hn hl,
    exec_load16 (.pop b) hsp (reads_imm s _) rfl (writeCore_rSP s _) hn hl,
    exec_load16 .popBlink hsp (reads_imm s _) rfl (writeCore_rSP s _) hn hl⟩

end Machine

end Sys2Proof
end

section
/-! Stores: those that complete (44_load_store.md R460 to R463) and the bytes they write. -/

namespace Sys2Proof

open Machine

/-- A 16-bit store writes back no register but SP. -/
theorem St16.wbWritesLpCount_eq_false (form : St16) (w : Option Word) : wbWritesLpCount form.args.wb w = false := by
  cases form <;> rfl

namespace Machine

variable {s t : State}

/-! ### What a store leaves -/

theorem readByte_congr (h : t.mem = s.mem) (x : Word) : t.readByte x = s.readByte x :=
  congrArg (readCell · x.toNat) h

/-- A write-back does not depend on memory. -/
theorem writeBack_withMem (s : State) (m : Memory) (wb : Option Reg) (w : Option Word) :
    ({ s with mem := m } : State).writeBack wb w = { s.writeBack wb w with mem := m } := by
  cases wb with
  | none => rfl
  | some r =>
    cases w with
    | none => rfl
    | some v =>
      simp only [State.writeBack, State.writeCore, cond_eq_ite]
      split_ifs <;> rfl

/-- The state after a store: operands read, datum written, base written back (44_load_store.md R460, R447). -/
def State.stored (s : State) (l : Len) (os : List Operand) (sz : Size) (addr v : Word) (wb : Option Reg) (w : Option Word) :
    State :=
  s.ended l { wroteLpCount := wbWritesLpCount wb w } (((s.afterReads os).writeData sz addr v).writeBack wb w)

section Stored

variable {l : Len} {os : List Operand} {sz : Size} {addr v : Word} {wb : Option Reg} {w : Option Word}

theorem readByte_stored (x : Word) :
    (s.stored l os sz addr v wb w).readByte x = ((s.afterReads os).writeData sz addr v).readByte x :=
  readByte_congr (writeBack_mem ..) x

/-- The low bytes of the datum, at its address. -/
theorem readByte_stored_of_lt (hm : s.mem.wf = true) {k : Nat} (hk : k < sizeBytes sz) :
    (s.stored l os sz addr v wb w).readByte (addr + BitVec.ofNat 32 k) = BitVec.ofNat 8 (v.toNat / 2 ^ (8 * k)) := by
  rw [readByte_stored]
  exact readByte_writeData_of_lt ((afterReads_mem s os).symm ▸ hm) sz addr v hk

/-- The frame of memory (20_memory.md R95). -/
theorem readByte_stored_of_not_inAccess (hm : s.mem.wf = true) {x : Word} (hx : ¬ inAccess addr sz x) :
    (s.stored l os sz addr v wb w).readByte x = s.readByte x := by
  rw [readByte_stored, readByte_writeData_of_not_inAccess ((afterReads_mem s os).symm ▸ hm) v hx]
  exact readByte_congr (afterReads_mem s os) x

/-- Apart from memory a store reads its operands and writes its base back. -/
theorem stored_withMem : { s.stored l os sz addr v wb w with mem := s.mem } =
    s.ended l { wroteLpCount := wbWritesLpCount wb w } ((s.afterReads os).writeBack wb w) := by
  have hmem : s.mem = ((s.afterReads os).writeBack wb w).mem := by rw [writeBack_mem, afterReads_mem]
  rw [State.stored, writeData_eq, writeBack_withMem, hmem]
  rfl

end Stored

/-! ### The shared meaning -/

/-- Stores to an aligned address in valid memory (44_load_store.md R460). -/
theorem runStore_completes {data : Operand} {x : MemArgs} {base off addr v : Word} {w : Option Word}
    (hn : s.NoHazard x.len none) (hl : s.LoopReady x.len (wbWritesLpCount x.wb w) false)
    (hb : s.value x.len 0 x.base = .ok base) (hd : s.value x.len 1 data = .ok v) (ho : s.value x.len 1 x.offset = .ok off)
    (hea : effAddr x.size base off x.aa = (addr, w)) (ha : addr.toNat % sizeBytes x.size = 0)
    (hv : s.validFrom .store addr (sizeBytes x.size) = true) :
    runStore data x s = .next (s.stored x.len [x.base, data] x.size addr v x.wb w) := by
  simp only [runStore, hn.start_eq, hb, hd, ho, withValue_ok, hea, (isAligned_iff _ _).2 ha, hv, Bool.not_true, cond_false]
  exact hl.retire_eq rfl rfl _

/-- Settles O33: the bytes of `State.stored`, and the rest of it. -/
theorem storeCompletes : Obligations.StoreCompletes := by
  intro sz r b d aa di limm s base v l ea count _ hm hn hl hb hd ha hv
  have ho : s.value l 1 (.imm (simm d 0)) = .ok (d.signExtend 32) := (reads_simm_zero s d).value l 1
  have hrun : runStore (.reg r limm) (stArgs sz r b d aa limm) s =
      .next (s.stored l [.reg b limm, .reg r limm] sz ea.1 v (some b) ea.2) :=
    runStore_completes hn hl hb hd ho rfl ha hv
  exact ⟨_, (exec_ofShape (.store sz r b d aa di limm) s).trans hrun, fun k hk => readByte_stored_of_lt hm hk,
    fun x hx => readByte_stored_of_not_inAccess hm hx, stored_withMem⟩

/-! ### The 16-bit stores -/

/-- A 16-bit store, from what its operands read and the address they give. -/
theorem exec_store16 (form : St16) {base off addr v : Word} {w : Option Word} {u : State} (hb : s.Reads form.args.base base)
    (hd : s.Reads form.data v) (ho : s.Reads form.args.offset off)
    (hea : effAddr form.args.size base off form.args.aa = (addr, w)) (hw : s.writeBack form.args.wb w = u)
    (hm : s.mem.wf = true) (hn : s.NoHazard len16 none) (hl : s.LoopReady len16 false false)
    (ha : addr.toNat % sizeBytes form.args.size = 0) (hv : s.validFrom .store addr (sizeBytes form.args.size) = true) :
    ∃ t, exec (Instr.ofShape (.store16 form)) s = .next t ∧
      (∀ k, k < sizeBytes form.args.size →
        t.readByte (addr + BitVec.ofNat 32 k) = BitVec.ofNat 8 (v.toNat / 2 ^ (8 * k))) ∧
      (∀ x, ¬ inAccess addr form.args.size x → t.readByte x = s.readByte x) ∧
      { t with mem := s.mem } = s.ended len16 {} u := by
  have hlen := form.args_len
  have hcount := form.wbWritesLpCount_eq_false w
  have hrun := runStore_completes (hlen ▸ hn) (hlen ▸ hcount ▸ hl) (hb.value _ 0) (hd.value _ 1) (ho.value _ 1) hea ha hv
  refine ⟨_, (exec_ofShape (.store16 form) s).trans hrun, fun k hk => readByte_stored_of_lt hm hk,
    fun x hx => readByte_stored_of_not_inAccess hm hx, ?_⟩
  rw [stored_withMem, hlen, hcount, hb.afterReads_pair hd, hw]

/-- The address PUSH_S computes and writes back (R463). -/
theorem effAddr_push (sp : Word) : effAddr .long sp (0#32 - 4#32) 1#2 = (sp - 4#32, some (sp - 4#32)) := by
  have hsub : sp + (0#32 - 4#32) = sp - 4#32 := by rw [BitVec.zero_sub, BitVec.sub_eq_add_neg]
  rw [← hsub]
  rfl

/-- Settles O34: each form with the operands it reads. -/
theorem store16Completes : Obligations.Store16Completes := by
  intro s b c u5 hm hn hl y z stores
  have hreg := reads_op16 s
  have hsp := reads_rSP s
  have hblink : s.Reads (.reg rBLINK 0#32) (s.reg 31) := reads_reg s 0#32 (by decide)
  have hu2 := reads_uimm_two s u5
  exact ⟨exec_store16 (.cbu .long c b u5) (hreg b) (hreg c) hu2 rfl rfl hm hn hl,
    exec_store16 (.cbu .byte c b u5) (hreg b) (hreg c) (reads_uimm_zero s u5) rfl rfl hm hn hl,
    exec_store16 (.cbu .half c b u5) (hreg b) (hreg c) (reads_uimm_one s u5) rfl rfl hm hn hl,
    exec_store16 (.sp false b u5) hsp (hreg b) hu2 rfl rfl hm hn hl,
    exec_store16 (.sp true b u5) hsp (hreg b) hu2 rfl rfl hm hn hl,
    exec_store16 (.push b) hsp (hreg b) (reads_imm s _) (effAddr_push _) (writeCore_rSP s _) hm hn hl,
    exec_store16 .pushBlink hsp hblink (reads_imm s _) (effAddr_push _) (writeCore_rSP s _) hm hn hl⟩

end Machine

end Sys2Proof
end

section
/-! The frame of memory: no instruction but a store changes it, and a store changes the bytes of its access alone (20_memory.md
R95, 44_load_store.md R444, R460 to R463). -/

namespace Sys2Proof

open Machine

namespace Machine

variable {s t : State}

/-! ### Every meaning but that of a store -/

theorem mem_of_runData {op : DataOp} {x : DataArgs} (h : runData op x s = .next t) : t.mem = s.mem := by
  obtain ⟨-, -, -, -, rfl⟩ | ⟨-, rfl⟩ | ⟨-, a, b, -, -, rfl⟩ := runData_next h
  · exact enter_mem ..
  · rfl
  · exact (writeDest_mem ..).trans (afterReads_mem ..)

theorem mem_of_runMul {sgn : Bool} {x : DataArgs} (h : runMul sgn x s = .next t) : t.mem = s.mem := by
  obtain ⟨-, -, rfl⟩ | ⟨-, rfl⟩ | ⟨-, a, b, -, -, rfl⟩ := runMul_next h
  · exact enter_mem ..
  · rfl
  · rfl

theorem mem_of_runLoad {sgn : Bool} {dest : Reg} {x : MemArgs} (h : runLoad sgn dest x s = .next t) : t.mem = s.mem := by
  obtain ⟨-, base, off, -, -, -, ⟨-, rfl⟩ | ⟨-, rfl⟩⟩ := runLoad_next h
  · exact enter_mem ..
  · exact (writeCore_mem ..).trans ((writeBack_mem ..).trans (afterReads_mem ..))

theorem mem_of_runBranch {x : BranchArgs} (h : runBranch x s = .next t) : t.mem = s.mem := by
  obtain ⟨-, ⟨-, target, free, -, -, rfl⟩ | ⟨-, rfl⟩⟩ := runBranch_next h
  · rw [ended_mem]
    cases x.link with
    | false => exact afterReads_mem ..
    | true => rw [cond_true, writeCore_mem, afterReads_mem]
  · exact afterReads_mem ..

theorem mem_of_runReturn {form : JFForm} (h : runReturn form s = .next t) : t.mem = s.mem := by
  obtain ⟨-, -, -, ⟨-, free, rfl⟩ | ⟨-, rfl⟩⟩ := runReturn_next h <;> rfl

theorem mem_of_runLp {form : LpForm} (h : runLp form s = .next t) : t.mem = s.mem := by
  obtain ⟨-, ⟨-, rfl⟩ | ⟨-, rfl⟩⟩ := runLp_next h <;> rfl

theorem mem_of_runFlag {x : DataArgs} (h : runFlag x s = .next t) : t.mem = s.mem := by
  obtain ⟨-, rfl⟩ | ⟨-, v, -, rfl⟩ := runFlag_next h
  · rfl
  · rw [ended_mem]
    cases bitAt v 0 <;> exact afterReads_mem ..

theorem mem_of_runLr {x : DataArgs} (h : runLr x s = .next t) : t.mem = s.mem := by
  obtain ⟨a, -, rfl⟩ := runLr_next h
  exact (writeDest_mem ..).trans (afterReads_mem ..)

theorem mem_of_runSr {x : DataArgs} (h : runSr x s = .next t) : t.mem = s.mem := by
  obtain ⟨v, a, -, -, -, rfl⟩ := runSr_next h
  exact (auxWrite_mem ..).trans (afterReads_mem ..)

theorem mem_of_runSleep {l : Len} (h : runSleep l s = .next t) : t.mem = s.mem := by
  obtain ⟨-, rfl⟩ := runSleep_next h
  rfl

theorem mem_of_runSwi {l : Len} (h : runSwi l s = .next t) : t.mem = s.mem := by
  obtain ⟨-, -, rfl⟩ := runSwi_next h
  exact enter_mem ..

theorem mem_of_runBreak {l : Len} (h : runBreak l s = .next t) : t.mem = s.mem := by
  obtain ⟨-, rfl⟩ := runBreak_next h
  rfl

theorem mem_of_runNop {l : Len} (h : runNop l s = .next t) : t.mem = s.mem := by
  obtain rfl := runNop_next h
  rfl

end Machine

/-- No format but a store changes memory. -/
theorem Shape.mem_of_run {v : Shape} {s t : State} (hv : v.stores = false) (h : v.run s = .next t) : t.mem = s.mem := by
  cases v with
  | alu | test | mov | sop | data16 => exact mem_of_runData h
  | mul | mul16 => exact mem_of_runMul h
  | load | load16 => exact mem_of_runLoad h
  | store | store16 => cases hv
  | jump | jumpD | bcc | bfar | blcc | bl | br | ctl16 => exact mem_of_runBranch h
  | jumpF => exact mem_of_runReturn h
  | lp => exact mem_of_runLp h
  | flag => exact mem_of_runFlag h
  | lr => exact mem_of_runLr h
  | sr => exact mem_of_runSr h
  | sleep => exact mem_of_runSleep h
  | swi => exact mem_of_runSwi h
  | brk => exact mem_of_runBreak h
  | nop | nop16 => exact mem_of_runNop h

namespace Machine

variable {s t : State}

/-! ### Stores -/

/-- A store leaves the bytes outside its access, whether it completes or raises Memory Error. -/
theorem readByte_of_runStore {data : Operand} {x : MemArgs} {base off addr : Word} {w : Option Word} (hm : s.mem.wf = true)
    (hb : s.value x.len 0 x.base = .ok base) (ho : s.value x.len 1 x.offset = .ok off)
    (hea : effAddr x.size base off x.aa = (addr, w)) {a : Word} (h : runStore data x s = .next t)
    (hx : ¬ inAccess addr x.size a) : t.readByte a = s.readByte a := by
  obtain ⟨base', v, off', hb', -, ho', -, hcases⟩ := runStore_next h
  obtain rfl := Except.ok.inj (hb.symm.trans hb')
  obtain rfl := Except.ok.inj (ho.symm.trans ho')
  rw [hea] at hcases
  obtain ⟨-, rfl⟩ | ⟨-, rfl⟩ := hcases
  · exact readByte_congr (enter_mem ..) a
  · exact readByte_stored_of_not_inAccess hm hx

theorem readByte_of_exec_store16 (form : St16) {base off addr : Word} {w : Option Word} (hm : s.mem.wf = true)
    (hb : s.Reads form.args.base base) (ho : s.Reads form.args.offset off)
    (hea : effAddr form.args.size base off form.args.aa = (addr, w)) {a : Word}
    (h : exec (Instr.ofShape (.store16 form)) s = .next t) (hx : ¬ inAccess addr form.args.size a) :
    t.readByte a = s.readByte a :=
  readByte_of_runStore hm (hb.value _ 0) (ho.value _ 1) hea ((exec_ofShape (.store16 form) s).symm.trans h) hx

/-- Settles O57: every format but a store keeps the whole memory, and a store is its access. -/
theorem memoryFrame : Obligations.MemoryFrame := by
  refine ⟨fun i s t hi h a => ?_, fun s t hm => ⟨?store, ?store16⟩⟩
  · exact readByte_congr (Shape.mem_of_run hi (exec_eq_run i s ▸ h)) a
  case store =>
    intro sz r b d aa di limm base x hb h
    exact readByte_of_runStore (x := stArgs sz r b d aa limm) hm hb ((reads_simm_zero s d).value _ 1) rfl
      ((exec_ofShape (.store sz r b d aa di limm) s).symm.trans h)
  case store16 =>
    intro b c u x at4 at1 at2 sp
    have hreg := reads_op16 s b
    have hsp := reads_rSP s
    have hu2 := reads_uimm_two s u
    exact ⟨readByte_of_exec_store16 (.cbu .long c b u) hm hreg hu2 rfl,
      readByte_of_exec_store16 (.cbu .byte c b u) hm hreg (reads_uimm_zero s u) rfl,
      readByte_of_exec_store16 (.cbu .half c b u) hm hreg (reads_uimm_one s u) rfl,
      readByte_of_exec_store16 (.sp false b u) hm hsp hu2 rfl,
      readByte_of_exec_store16 (.sp true b u) hm hsp hu2 rfl,
      readByte_of_exec_store16 (.push b) hm hsp (reads_imm s _) (effAddr_push _),
      readByte_of_exec_store16 .pushBlink hm hsp (reads_imm s _) (effAddr_push _)⟩

end Machine

end Sys2Proof
end

section
/-! The auxiliary registers: what LR reads of each (10_state.md R38, R41 to R51), what SR writes to each (R39, R43 to R54), and
that both complete (45_aux_system.md R490, R491). -/

namespace Sys2Proof.Machine

variable {s : State} {a : Word}

/-! ### The numbers of the registers (10_state.md R40) -/

/-- The registers LR reads by a rule of their own. -/
def readableAux : List Word :=
  [0x0#32, 0x1#32, 0x2#32, 0x3#32, 0x4#32, 0x5#32, 0x6#32, 0xA#32, 0xB#32, 0xC#32, 0x25#32]

/-- The registers SR writes by a rule of their own. -/
def writableAux : List Word := [0x1#32, 0x2#32, 0x3#32, 0xB#32, 0xC#32, 0x12#32, 0x25#32]

theorem isFixedAux_of_mem_readableAux : ∀ a ∈ readableAux, isFixedAux a = true := List.all_eq_true.1 rfl

theorem isFixedAux_of_mem_writableAux : ∀ a ∈ writableAux, isFixedAux a = true := List.all_eq_true.1 rfl

theorem isFixedAux_buildReg (h : 0x60 ≤ a.toNat) (h' : a.toNat ≤ 0x7F) : isFixedAux a = true := by
  rw [isFixedAux, decide_eq_true h, decide_eq_true (Nat.lt_succ_of_le h'), Bool.and_self, Bool.or_true]

/-- An extension auxiliary register has none of the numbers the manual gives a register. -/
theorem isFixedAux_of_isExtAux {cfg : Config} (h : isExtAux cfg a = true) : isFixedAux a = false := by
  rw [isExtAux, Bool.and_eq_true, Bool.not_eq_true'] at h
  exact h.2

theorem isExtAux_of_isFixedAux (cfg : Config) (h : isFixedAux a = true) : isExtAux cfg a = false := by
  rw [isExtAux, h, Bool.not_true, Bool.and_false]

theorem mem_extAux_of_isExtAux {cfg : Config} (h : isExtAux cfg a = true) : a ∈ cfg.extAux := by
  rw [isExtAux, Bool.and_eq_true] at h
  exact List.contains_iff_mem.1 h.1

/-- A number that is not in a list differs from each number of the list. -/
theorem toNat_ne_of_not_mem {l : List Word} (h : a ∉ l) {n : Nat} (hn : BitVec.ofNat 32 n ∈ l) : a.toNat ≠ n := by
  rintro rfl
  rw [BitVec.ofNat_toNat, BitVec.setWidth_eq] at hn
  exact h hn

/-- LR of every other number. -/
theorem auxRead_of_not_mem (h : a ∉ readableAux) : s.auxRead a =
    bif decide (0x60 ≤ a.toNat) && decide (a.toNat < 0x80) then Config.buildReg a
    else bif isExtAux s.cfg a then Config.extAuxView a (s.extAuxReg a) else s.free 5 := by
  unfold State.auxRead State.auxReadWith
  split
  case h_12 => rfl
  all_goals next he => exact absurd he (toNat_ne_of_not_mem h (by decide))

/-- SR to every other number. -/
theorem auxWrite_of_not_mem (h : a ∉ writableAux) (v : Word) : s.auxWrite a v =
    bif isExtAux s.cfg a then s.setExtAux a (Config.extAuxTake a (s.extAuxReg a) v) else s := by
  unfold State.auxWrite
  split
  case h_8 => rfl
  all_goals next he => exact absurd he (toNat_ne_of_not_mem h (by decide))

/-! ### What LR reads -/

/-- The bits that are not free. -/
theorem freeUnder_not_and (m v f : Word) : freeUnder (~~~m) v f &&& m = v &&& m := by
  ext i
  simp only [freeUnder, BitVec.getElem_and, BitVec.getElem_or, BitVec.getElem_not]
  cases m[i] <;> simp

/-- A flag at its place in a status register. -/
theorem ite_two_pow_eq (b : Bool) (n : Nat) : (if b = true then 2 ^ n else 0) = b.toNat * 2 ^ n := by
  cases b <;> simp

/-- STATUS32 has no bit outside its layout (10_state.md R34). -/
theorem status32_and_mask (s : State) : s.status32 &&& 0xF07#32 = s.status32 := by
  have hbits : ∀ z n c v e2 e1 h : Bool,
      (0#20 ++ BitVec.ofBool z ++ BitVec.ofBool n ++ BitVec.ofBool c ++ BitVec.ofBool v ++ 0#5 ++ BitVec.ofBool e2 ++
        BitVec.ofBool e1 ++ BitVec.ofBool h : Word) &&& 0xF07#32 =
      0#20 ++ BitVec.ofBool z ++ BitVec.ofBool n ++ BitVec.ofBool c ++ BitVec.ofBool v ++ 0#5 ++ BitVec.ofBool e2 ++
        BitVec.ofBool e1 ++ BitVec.ofBool h := by decide
  exact hbits ..

theorem toNat_status32 (s : State) : s.status32.toNat =
    s.flags.z.toNat * 2 ^ 11 + s.flags.n.toNat * 2 ^ 10 + s.flags.c.toNat * 2 ^ 9 + s.flags.v.toNat * 2 ^ 8 +
      s.e2.toNat * 2 ^ 2 + s.e1.toNat * 2 ^ 1 + s.h.toNat * 2 ^ 0 := by
  simp only [State.status32, toNat_append_eq_add, BitVec.toNat_ofBool, BitVec.toNat_ofNat, Nat.zero_mod]
  ring

/-- STATUS: the bits of the pc below, the status bits above (10_state.md R42). -/
theorem toNat_status (s : State) (f : Word) : (s.status f).toNat =
    s.pc.toNat / 4 % 2 ^ 24 + 2 ^ 24 * ((f.extractLsb' 24 1).toNat + 2 *
      (s.flags.z.toNat * 2 ^ 6 + s.flags.n.toNat * 2 ^ 5 + s.flags.c.toNat * 2 ^ 4 + s.flags.v.toNat * 2 ^ 3 +
        s.e2.toNat * 2 ^ 2 + s.e1.toNat * 2 ^ 1 + s.h.toNat * 2 ^ 0)) := by
  have hpc : (s.pc.extractLsb' 2 24).toNat = s.pc.toNat / 4 % 2 ^ 24 := by
    rw [BitVec.extractLsb'_toNat, Nat.shiftRight_eq_div_pow]
  simp only [State.status, toNat_append_eq_add, BitVec.toNat_ofBool, hpc]
  ring

/-- The part above the reserved bit 24. -/
theorem div_of_parts {low reserved high : Nat} (hlow : low < 2 ^ 24) (hreserved : reserved < 2) :
    (low + 2 ^ 24 * (reserved + 2 * high)) / 2 ^ 25 = high := by
  omega

theorem toNat_status_mod (s : State) (f : Word) : (s.status f).toNat % 2 ^ 24 = s.pc.toNat / 4 % 2 ^ 24 := by
  rw [toNat_status, Nat.add_mul_mod_self_left, Nat.mod_mod]

theorem toNat_status_div (s : State) (f : Word) : (s.status f).toNat / 2 ^ 25 =
    s.flags.z.toNat * 2 ^ 6 + s.flags.n.toNat * 2 ^ 5 + s.flags.c.toNat * 2 ^ 4 + s.flags.v.toNat * 2 ^ 3 +
      s.e2.toNat * 2 ^ 2 + s.e1.toNat * 2 ^ 1 + s.h.toNat * 2 ^ 0 := by
  rw [toNat_status]
  exact div_of_parts (Nat.mod_lt _ (by decide)) (f.extractLsb' 24 1).isLt

/-- DEBUG: the bits the manual fixes, besides LD (10_state.md R46). -/
theorem getLsbD_debug (s : State) (f : Word) :
    (s.debug f).getLsbD 30 = s.sh ∧ (s.debug f).getLsbD 29 = s.bh ∧ (s.debug f).getLsbD 23 = s.zz ∧
    (s.debug f).getLsbD 1 = false := by
  simp only [State.debug, BitVec.getLsbD_append]
  simp

theorem auxRead_buildReg (h : 0x60 ≤ a.toNat) (h' : a.toNat ≤ 0x7F) : s.auxRead a = Config.buildReg a := by
  have hne : a ∉ readableAux := fun ha =>
    absurd ((by simp [readableAux] : ∀ k ∈ readableAux, k.toNat < 0x60) a ha) (Nat.not_lt.2 h)
  rw [auxRead_of_not_mem hne, decide_eq_true h, decide_eq_true (Nat.lt_succ_of_le h'), Bool.and_self, cond_true]

theorem auxRead_ext (h : isExtAux s.cfg a = true) : s.auxRead a = Config.extAuxView a (s.extAuxReg a) := by
  have hfixed := isFixedAux_of_isExtAux h
  have hne : a ∉ readableAux := fun ha => Bool.eq_false_iff.1 hfixed (isFixedAux_of_mem_readableAux a ha)
  have hbuild : (decide (0x60 ≤ a.toNat) && decide (a.toNat < 0x80)) = false := by
    rw [isFixedAux, Bool.or_eq_false_iff] at hfixed
    exact hfixed.2
  rw [auxRead_of_not_mem hne, hbuild, cond_false, h, cond_true]

/-- LR completes past its hazards. -/
theorem runLr_completes {x : DataArgs} (hn : s.NoHazard x.len none)
    (hl : s.LoopReady x.len (x.dest == some 60#6) false) (ha : s.value x.len 1 x.src2 = .ok a) :
    runLr x s = .next (s.ended x.len { wroteLpCount := x.dest == some 60#6 }
      ((s.afterReads [x.src2]).writeDest x.dest (s.auxRead a))) := by
  rw [runLr, hn.start_eq, ha, withValue_ok, hl.retire_eq rfl rfl]

/-- Settles O47: LR completes by its shared meaning, and each register reads by its own layout. -/
theorem lrCompletes : Obligations.LrCompletes := by
  refine ⟨fun form s a hn hl ha => ?completes, fun s => ?reads⟩
  case completes =>
    have hdest : ((lrArgs form).dest == some 60#6) = (form.dest == 60#6) := by rw [lrArgs_dest]; rfl
    calc exec (.lr form) s
        = runLr (lrArgs form) s := exec_ofShape (.lr form) s
      _ = _ := runLr_completes hn (hdest ▸ hl) ha
      _ = _ := by rw [hdest, lrArgs_dest]; rfl
  case reads =>
    intro f bit
    obtain ⟨hsh, hbh, hzz, hfh⟩ := getLsbD_debug s (s.free 5)
    have hbit (b : Bool) (n : Nat) : bit b n = b.toNat * 2 ^ n := ite_two_pow_eq b n
    have hstatus : s.auxRead 0x0#32 = s.status (s.free 5) := rfl
    have hstatus32 : s.auxRead 0xA#32 &&& 0xF07#32 = s.status32 :=
      (freeUnder_not_and 0xF07#32 s.status32 (s.free 5)).trans (status32_and_mask s)
    refine ⟨toNat_status_mod s _, ?_, freeUnder_not_and _ _ _, rfl, rfl, rfl, hsh, hbh, hzz, hfh,
      fun hseen => getLsbD_debug_31 hseen _, rfl, ?_, freeUnder_not_and statusLMask _ _,
      freeUnder_not_and statusLMask _ _, rfl, fun a => auxRead_buildReg, fun a => auxRead_ext⟩
    · simp only [hbit, hstatus, toNat_status_div, f]
    · simp only [hbit, hstatus32, toNat_status32, f]

/-! ### What SR writes -/

/-- SR to an extension auxiliary register that exists. -/
theorem auxWrite_ext (h : isExtAux s.cfg a = true) (v : Word) :
    s.auxWrite a v = s.setExtAux a (Config.extAuxTake a (s.extAuxReg a) v) := by
  have hne : a ∉ writableAux := fun ha =>
    Bool.eq_false_iff.1 (isFixedAux_of_isExtAux h) (isFixedAux_of_mem_writableAux a ha)
  rw [auxWrite_of_not_mem hne, h, cond_true]

/-- SR to a number that is neither writable nor an extension register. -/
theorem auxWrite_ignored (h : a ∉ writableAux) (hext : isExtAux s.cfg a = false) (v : Word) : s.auxWrite a v = s := by
  rw [auxWrite_of_not_mem h, hext, cond_false]

/-- SR to a read-only register of the manual. -/
theorem auxWrite_readOnly (h : a ∉ writableAux) (hfixed : isFixedAux a = true) (v : Word) : s.auxWrite a v = s :=
  auxWrite_ignored h (isExtAux_of_isFixedAux s.cfg hfixed) v

/-- SR to MULHI: the upper word of the multiply result, when there is a multiplier (46_extensions.md R535). -/
theorem auxWrite_mulHi (s : State) (v : Word) : s.auxWrite 0x12#32 v =
    bif s.cfg.hasMul64 then { s with mulres := v ++ s.mulres.extractLsb' 0 32 } else s := rfl

/-- SR completes past its hazards: a running multiply and a loop bound at the end of a loop. -/
theorem runSr_completes {x : DataArgs} {v : Word} (hn : s.NoHazard x.len none)
    (hl : s.LoopReady x.len false (isLoopBound a)) (hv : s.value1 x = .ok v) (ha : s.value x.len 1 x.src2 = .ok a)
    (hm : (a == 0x12#32 && s.cfg.hasMul64 && (s.afterReads x.sources).mulBusy) = false) (hb : s.srBarred x.len a = false) :
    runSr x s = .next (s.ended x.len
      { wroteLoopBounds := isLoopBound a, wasSrStatusL := a == 0xB#32 || a == 0xC#32 }
      ((s.afterReads x.sources).auxWrite a v)) := by
  simp only [runSr, hn.start_eq, hv, ha, withValue_ok, hm, hb, cond_false]
  exact hl.retire_eq rfl rfl _

/-- Settles O48: SR completes by its shared meaning, and each number has its own rule. -/
theorem srCompletes : Obligations.SrCompletes := by
  refine ⟨fun form s v a hn hl hv ha hmul hb => ?completes, fun s a v => ⟨rfl, rfl, rfl, rfl, rfl, rfl,
    fun hm => ?mulHi, fun hm => ?noMul, fun ha hext => auxWrite_ignored ha hext v, ?readOnly, fun hext hlen => ?ext⟩⟩
  case completes =>
    have hm : (a == 0x12#32 && s.cfg.hasMul64 && (s.afterReads (srArgs form).sources).mulBusy) = false := by
      rw [Bool.eq_false_iff, ne_eq, Bool.and_eq_true, Bool.and_eq_true, beq_iff_eq]
      rintro ⟨⟨ha12, hhas⟩, hbusy⟩
      exact Bool.false_ne_true ((hmul ha12 hhas).symm.trans hbusy)
    exact (exec_ofShape (.sr form) s).trans (runSr_completes hn hl hv ha hm hb)
  case mulHi =>
    rw [auxWrite_mulHi, hm, cond_true]
    refine ⟨?_, rfl⟩
    have hlow : (s.mulres.extractLsb' 0 32).toNat = s.mulres.toNat % 2 ^ 32 := by
      rw [BitVec.extractLsb'_toNat, Nat.shiftRight_zero]
    rw [toNat_append_eq_add, hlow, Nat.mul_comm, Nat.add_comm]
  case noMul => rw [auxWrite_mulHi, hm, cond_false]
  case readOnly =>
    rintro (ha | ⟨hlo, hhi⟩)
    · obtain ⟨hne, hfixed⟩ := (by simp [writableAux, isFixedAux] : ∀ k ∈ [0x0#32, 0x4#32, 0x5#32, 0x6#32, 0xA#32],
        k ∉ writableAux ∧ isFixedAux k = true) a ha
      exact auxWrite_readOnly hne hfixed v
    · have hne : a ∉ writableAux := fun ha =>
        absurd ((by simp [writableAux] : ∀ k ∈ writableAux, k.toNat < 0x60) a ha) (Nat.not_lt.2 hlo)
      exact auxWrite_readOnly hne (isFixedAux_buildReg hlo hhi) v
  case ext =>
    have hreg (b : Word) (hb : isExtAux s.cfg b = true) :=
      extAuxReg_setExtAux (a := a) (Config.extAuxTake a (s.extAuxReg a) v) b (mem_extAux_of_isExtAux hb) hlen
    rw [auxWrite_ext hext]
    exact ⟨(hreg a hext).trans (if_pos rfl), rfl, fun b hb hne => (hreg b hb).trans (if_neg hne)⟩

end Sys2Proof.Machine
end

section
/-! FLAG, SWI, SLEEP, BRK_S and the NOPs complete (45_aux_system.md R492 to R496). -/

namespace Sys2Proof.Machine

variable {s : State} {x : DataArgs} {l : Len}

/-! ### FLAG -/

theorem runFlag_completes {v : Word} (hn : s.NoHazard x.len none) (hl : s.LoopReady x.len false false)
    (hc : s.condMet x.cond = true) (hv : s.value x.len 1 x.src2 = .ok v) :
    runFlag x s = .next (s.ended x.len { wasFlag := true }
      (bif v.getLsbD 0 then { s.afterReads [x.src2] with h := true, sh := true, haltShadow := 3 }
        else (s.afterReads [x.src2]).setStatus v)) := by
  rw [runFlag, hn.start_eq, hc, cond_true, hv, withValue_ok, hl.retire_eq rfl rfl, bitAt_eq_getLsbD]

theorem runFlag_skips (hn : s.NoHazard x.len none) (hl : s.LoopReady x.len false false) (hc : s.condMet x.cond = false) :
    runFlag x s = .next (s.ended x.len { wasFlag := true } s) := by
  rw [runFlag, hn.start_eq, hc, cond_false, hl.retire_eq rfl rfl]

/-- Settles O46: bit 0 of the source decides between halting and a write of the status. -/
theorem flagCompletes : Obligations.FlagCompletes := by
  intro form s x hn hl
  have hexec : exec (.flag form) s = runFlag x s := exec_ofShape (.flag form) s
  rw [hexec]
  refine ⟨fun v hc hv => ?_, fun hc => runFlag_skips hn hl hc⟩
  rw [runFlag_completes hn hl hc hv]
  refine ⟨fun hhalt => ?_, fun hgo => ?_⟩
  · rw [hhalt, cond_true]
  · rw [hgo, cond_false, setStatus_eq]

/-! ### SWI, SLEEP, BRK_S and the NOPs -/

/-- An instruction without a long immediate meets only the halt shadow. -/
theorem noHazard_of_no_limm (hs : s.haltShadow = 0) (hlimm : l.limm = false) : s.NoHazard l none :=
  ⟨hs, fun _ => hlimm, nofun⟩

theorem runSwi_excepts (hn : s.NoHazard l none) (hp : s.prevCmpBranch = false) (hd : s.delayTarget = none) :
    runSwi l s = .next (s.instructionError (s.npc l)) := by
  rw [runSwi, hn.start_eq, hp, cond_false, hd, Option.isSome_none, cond_false]

theorem runSleep_completes (hn : s.NoHazard l none) (hp : s.prevCmpBranch = false) (hl : s.LoopReady l false false) :
    runSleep l s = .next (s.ended l {} { s with zz := s.zz || !s.singleStep }) := by
  rw [runSleep, hn.start_eq, hp, cond_false, hl.retire_eq rfl rfl]

theorem runBreak_halts (hn : s.NoHazard l none) (hd : s.delayTarget = none) :
    runBreak l s = .next { s with bh := true, h := true } := by
  rw [runBreak, hn.start_eq, hd, Option.isSome_none, cond_false]

theorem runNop_completes (hl : s.LoopReady l false false) :
    runNop l s = .next (s.ended l {} { s with haltShadow := s.haltShadow - 1 }) :=
  hl.retire_eq rfl rfl _

/-- Settles O50: each instruction completes by its shared meaning, and SWI is the entry at vector 2. -/
theorem systemCompletes : Obligations.SystemCompletes := by
  refine ⟨fun s hs hp hd => ?swi, fun s => ⟨fun hs hp hl => ?sleep, fun hs hd => ?brk, runNop_completes,
    runNop_completes⟩⟩
  case swi =>
    have hentry : s.instructionError (s.pc + 4#32) =
        { s.instructionError (s.pc + 4#32) with delayTarget := s.delayTarget } := by rw [hd]; rfl
    calc exec .swi s
        = .next (s.instructionError (s.pc + 4#32)) :=
          runSwi_excepts (l := ⟨false, false⟩) (noHazard_of_no_limm hs rfl) hp hd
      _ = _ := congrArg _ hentry
  case sleep =>
    have hsleep : exec .sleep s = _ := runSleep_completes (noHazard_of_no_limm hs rfl) hp hl
    refine ⟨fun hrun => ?_, fun hstep => ?_⟩
    · have hzz : (s.zz || !s.singleStep) = true := by rw [hrun, Bool.not_false, Bool.or_true]
      rw [hsleep, hzz]
    · have hzz : (s.zz || !s.singleStep) = s.zz := by rw [hstep, Bool.not_true, Bool.or_false]
      rw [hsleep, hzz]
  case brk => exact runBreak_halts (l := len16) (noHazard_of_no_limm hs rfl) hd

end Sys2Proof.Machine
end

section
/-! The optional components (46_extensions.md): an instruction of an absent one takes Instruction Error (R530, R531), and the
multiplies complete with the 64-bit product (R540 to R542). -/

namespace Sys2Proof

open Machine

/-! ### An absent option -/

theorem Machine.start_absent {s : State} {o : Opt} (hs : s.haltShadow = 0) (ho : s.cfg.has o = false) (l : Len)
    (k : Result) : s.start l (some o) k = .next (s.instructionError (s.pc + l.base)) := by
  have hany : ((some o).any fun x => !s.cfg.has x) = true := congrArg not ho
  rw [State.start, hs, hany, cond_true]
  rfl

theorem needs_data16 (form : Data16) : needs (.data16 form) = dataNeeds form.op := by
  cases form with
  | cbu3 op | bbc op | bc op | bbu5 op => cases op <;> rfl
  | adjSp sub => cases sub <;> rfl
  | _ => rfl

/-- An instruction of an optional component looks for it before anything else but the halt shadow. -/
theorem Shape.run_eq_start {v : Shape} {o : Opt} (h : needs v = some o) (s : State) :
    ∃ k, v.run s = s.start v.len (some o) k := by
  have ofData {op : DataOp} {x : DataArgs} (hneeds : dataNeeds op = some o) (hlen : x.len = v.len) :
      ∃ k, runData op x s = s.start v.len (some o) k := by
    rw [← hneeds, ← hlen]
    exact ⟨_, rfl⟩
  have ofMul {sgn : Bool} {x : DataArgs} (hneeds : some .mul64 = some o) (hlen : x.len = v.len) :
      ∃ k, runMul sgn x s = s.start v.len (some o) k := by
    rw [← hneeds, ← hlen]
    exact ⟨_, rfl⟩
  cases v with
  | alu op form => exact ofData h (genArgs_len form)
  | sop op form => exact ofData h (sopArgs_len form)
  | data16 form => exact ofData (needs_data16 form ▸ h) form.args_len
  | mul sgn form => exact ofMul h (cmpArgs_len form)
  | mul16 => exact ofMul h rfl
  | _ => cases h

theorem Shape.base_len (i : Instr) : i.shape.len.base = BitVec.ofNat 32 i.base := by
  rw [Shape.len, Len.base, Instr.base]
  cases i.shape.isShort <;> rfl

/-- Settles O10: the instruction begins with `State.start`, which answers for the option. -/
theorem absentOption : Obligations.AbsentOption := by
  intro i s o hneeds ho hs
  obtain ⟨k, hrun⟩ := Shape.run_eq_start hneeds s
  calc exec i s
      = s.start i.shape.len (some o) k := (exec_eq_run i s).trans hrun
    _ = .next (s.instructionError (s.pc + i.shape.len.base)) := start_absent hs ho _ k
    _ = .next (s.enter .two 2 (s.pc + BitVec.ofNat 32 i.base)) := by rw [Shape.base_len, State.instructionError]

namespace Machine

variable {s : State}

/-! ### The product -/

/-- The signed product of two words fits in 64 bits. -/
theorem mulEval_true_toInt (a b : Word) : (mulEval true a b).toInt = a.toInt * b.toInt := by
  have hle : a.toInt * b.toInt ≤ 2 ^ 62 := BitVec.toInt_mul_toInt_le
  have hge : -2 ^ 62 ≤ a.toInt * b.toInt := BitVec.le_toInt_mul_toInt
  calc (a.signExtend 64 * b.signExtend 64).toInt
      = (a.toInt * b.toInt).bmod (2 ^ 64) := by
        rw [BitVec.toInt_mul, BitVec.toInt_signExtend_of_le (by decide), BitVec.toInt_signExtend_of_le (by decide)]
    _ = a.toInt * b.toInt := Int.bmod_eq_of_le_mul_two (by omega) (by omega)

/-- The unsigned product of two words fits in 64 bits. -/
theorem mulEval_false_toNat (a b : Word) : (mulEval false a b).toNat = a.toNat * b.toNat := by
  have ha : (a.setWidth 64).toNat = a.toNat := BitVec.toNat_setWidth_of_le (by decide)
  have hb : (b.setWidth 64).toNat = b.toNat := BitVec.toNat_setWidth_of_le (by decide)
  have hlt : a.toNat * b.toNat < 2 ^ 64 := BitVec.toNat_mul_toNat_lt
  calc (a.setWidth 64 * b.setWidth 64).toNat
      = (a.setWidth 64).toNat * (b.setWidth 64).toNat := BitVec.toNat_mul_of_lt (by rwa [ha, hb])
    _ = a.toNat * b.toNat := by rw [ha, hb]

/-! ### The multiplies -/

theorem runMul_completes {sgn : Bool} {x : DataArgs} {a b : Word} (hn : s.NoHazard x.len (some .mul64))
    (hl : s.LoopReady x.len false false) (hc : s.condMet x.cond = true) (ha : s.value1 x = .ok a)
    (hb : s.value x.len 1 x.src2 = .ok b) :
    runMul sgn x s = .next (s.ended x.len {} { s with mulres := mulEval sgn a b, mulBusy := true }) := by
  rw [runMul, hn.start_eq, hc, cond_true, ha, hb]
  exact hl.retire_eq rfl rfl _

/-- Settles O23: the product is the one of `mulEval`, which loses nothing of the integer product. -/
theorem multiplyCompletes : Obligations.MultiplyCompletes := by
  refine ⟨fun sgn form s a b hn hl hc ha hb => ⟨mulEval sgn a b, ?product, ?mul32⟩,
    fun b c s hn hl => ⟨mulEval true (s.reg (reg16 b).toNat) (s.reg (reg16 c).toNat), mulEval_true_toInt _ _, ?mul16⟩⟩
  case product =>
    cases sgn with
    | true => exact mulEval_true_toInt a b
    | false => exact mulEval_false_toNat a b
  case mul32 => exact (exec_ofShape (.mul sgn form) s).trans (runMul_completes hn hl hc ha hb)
  case mul16 =>
    exact (exec_ofShape (.mul16 b c) s).trans
      (runMul_completes hn hl rfl (value_op16 s len16 0 b) (value_op16 s len16 1 c))

end Machine

end Sys2Proof
end

section
/-! Interrupts: which line is taken (60_exceptions.md R585), when none is entered (R590, R560), and what entry does (R575, R576). -/

namespace Sys2Proof.Machine

variable {s : State}

/-! ### The line that is taken -/

theorem lineTakeable_iff {line : IrqLine} : s.lineTakeable line = true ↔
    line.vector ∈ s.pending ∧ (line.level = .one ∧ s.e1 = true ∨ line.level = .two ∧ s.e2 = true) := by
  rw [State.lineTakeable, Bool.and_eq_true, List.contains_iff_mem]
  cases line.level <;> simp

/-- The first takeable line of a level, in the order of the parameters (log 42). -/
def State.firstTakeable (s : State) (lv : Level) : Option IrqLine :=
  s.cfg.irqLines.find? fun x => x.level == lv && s.lineTakeable x

theorem takeable_eq_or (s : State) : s.takeable = (s.firstTakeable .two).or (s.firstTakeable .one) := by
  rw [State.takeable, State.firstTakeable, State.firstTakeable]
  cases s.cfg.irqLines.find? fun x => x.level == .two && s.lineTakeable x <;> rfl

theorem firstTakeable_some {lv : Level} {line : IrqLine} (h : s.firstTakeable lv = some line) :
    line ∈ s.cfg.irqLines ∧ line.level = lv ∧ s.lineTakeable line = true := by
  have hline := List.find?_some h
  rw [Bool.and_eq_true, beq_iff_eq] at hline
  exact ⟨List.mem_of_find?_eq_some h, hline⟩

/-- Where a line of a level is takeable, that level has a first one. -/
theorem firstTakeable_isSome {line : IrqLine} (hmem : line ∈ s.cfg.irqLines) (h : s.lineTakeable line = true) :
    (s.firstTakeable line.level).isSome = true := by
  rw [State.firstTakeable, List.find?_isSome]
  exact ⟨line, hmem, by rw [h, Bool.and_true, beq_iff_eq]⟩

/-- The taken line is the first of level 2, or the first of level 1 when level 2 has none. -/
theorem takeable_eq_some_iff {line : IrqLine} : s.takeable = some line ↔
    s.firstTakeable .two = some line ∨ s.firstTakeable .two = none ∧ s.firstTakeable .one = some line := by
  rw [takeable_eq_or, Option.or_eq_some_iff]

/-- No line is taken when none is takeable. -/
theorem takeable_eq_none (h : ∀ line, ¬ s.lineTakeable line = true) : s.takeable = none := by
  have hnone (lv : Level) : s.firstTakeable lv = none := List.find?_eq_none.2 fun line _ => by simp [h line]
  rw [takeable_eq_or, hnone, hnone, Option.or_none]

/-- Settles O7: the taken line is the first takeable one of level 2, or of level 1 when level 2 has none. -/
theorem interruptChoice : Obligations.InterruptChoice := by
  intro s can
  have hcan {line : IrqLine} : can line ↔ line ∈ s.cfg.irqLines ∧ s.lineTakeable line = true := by rw [lineTakeable_iff]
  have htaken {lv : Level} {line : IrqLine} (h : s.firstTakeable lv = some line) : can line ∧ line.level = lv := by
    obtain ⟨hmem, hlv, hline⟩ := firstTakeable_some h
    exact ⟨hcan.2 ⟨hmem, hline⟩, hlv⟩
  refine ⟨fun line h => ?chosen, fun line h => ?some⟩
  case chosen =>
    obtain htwo | ⟨hnone, hone⟩ := takeable_eq_some_iff.1 h
    · obtain ⟨hline, hlv⟩ := htaken htwo
      exact ⟨hline, fun h1 => absurd (hlv.symm.trans h1) (by decide)⟩
    · refine ⟨(htaken hone).1, fun _ other hother => ?_⟩
      obtain ⟨hmem, hline⟩ := hcan.1 hother
      have hfirst := firstTakeable_isSome hmem hline
      cases hlv : other.level with
      | one => rfl
      | two => rw [hlv, hnone] at hfirst; cases hfirst
  case some =>
    obtain ⟨hmem, hline⟩ := hcan.1 h
    have hfirst := firstTakeable_isSome hmem hline
    rw [← Option.isSome_iff_exists, takeable_eq_or, Option.isSome_or, Bool.or_eq_true]
    cases hlv : line.level with
    | one => exact .inr (hlv ▸ hfirst)
    | two => exact .inl (hlv ▸ hfirst)

/-! ### The boundary before an instruction -/

theorem step_of_halted (h : s.h = true) : step s = .next s := by rw [step, h, cond_true]

theorem step_of_interrupt {line : IrqLine} (h : s.h = false) (hi : s.interrupt = some line) :
    step s = s.enterInterrupt line := by rw [step, h, cond_false, hi]

theorem step_of_sleeping (h : s.h = false) (hi : s.interrupt = none) (hz : s.zz = true) : step s = .next s := by
  rw [step, h, cond_false, hi, hz, cond_true]

theorem step_of_running (h : s.h = false) (hi : s.interrupt = none) (hz : s.zz = false) : step s = s.execAtPc := by
  rw [step, h, cond_false, hi, hz, cond_false]

theorem interrupt_of_heldOff (h : s.heldOff = true) : s.interrupt = none := by rw [State.interrupt, h, cond_true]

theorem interrupt_of_no_line (h : ∀ line, ¬ s.lineTakeable line = true) : s.interrupt = none := by
  rw [State.interrupt, takeable_eq_none h]
  cases s.heldOff <;> rfl

/-- Settles O5: the first three reasons hold interrupts off, the other two leave no takeable line. -/
theorem stepWithoutInterrupt : Obligations.StepWithoutInterrupt := by
  refine ⟨⟨fun s => step_of_halted, fun s hz hi => ?sleeping⟩, fun s hh hz hwhy => ?running⟩
  case sleeping =>
    cases hh : s.h with
    | true => exact step_of_halted hh
    | false => exact step_of_sleeping hh hi hz
  case running =>
    have hi : s.interrupt = none := by
      obtain hslot | hflag | hbrk | ⟨h1, h2⟩ | hidle := hwhy
      · exact interrupt_of_heldOff (by rw [State.heldOff, hslot]; rfl)
      · exact interrupt_of_heldOff (by rw [State.heldOff, hflag, Bool.or_true]; rfl)
      · exact interrupt_of_heldOff (by rw [State.heldOff, hbrk, beq_self_eq_true, Bool.or_true])
      · refine interrupt_of_no_line fun line hline => ?_
        obtain ⟨-, ⟨-, he⟩ | ⟨-, he⟩⟩ := lineTakeable_iff.1 hline
        · exact absurd (h1.symm.trans he) Bool.false_ne_true
        · exact absurd (h2.symm.trans he) Bool.false_ne_true
      · exact interrupt_of_no_line fun line hline => absurd (hidle ▸ (lineTakeable_iff.1 hline).1) List.not_mem_nil
    exact ⟨hi, step_of_running hh hi hz⟩

/-! ### Entry -/

/-- Settles O8: each level has its link register and its status save register; the two errors are entries of level 2. -/
theorem entrySequence : Obligations.EntrySequence :=
  fun _ _ _ => ⟨rfl, rfl, rfl, rfl⟩

/-- Settles O6: the entry of a core that is awake again, by the level of the line. -/
theorem interruptEntry : Obligations.InterruptEntry := by
  intro s line hh hi
  have hstep := step_of_interrupt hh hi
  have hentry (hs : s.haltShadow = 0) :
      step s = .next (({ s with zz := false } : State).enter line.level line.vector s.pc) := by
    rw [hstep, State.enterInterrupt, hs]
    rfl
  refine ⟨fun hs => ?shadow, fun hs hlv => ?one, fun hs hlv => ?two⟩
  case shadow => rw [hstep, State.enterInterrupt, bne_iff_ne.2 hs, cond_true]
  case one => rw [hentry hs, hlv]; rfl
  case two => rw [hentry hs, hlv]; rfl

end Sys2Proof.Machine
end

section
/-! Fetching and decoding the instruction at the pc (20_memory.md R97 to R99, R104), and the exceptions of a fetch
(60_exceptions.md R577, R578). -/

namespace Sys2Proof.Machine

variable {s : State} {a : Word}

/-! ### Half-words and long words in memory -/

theorem fetch16_of_valid (h : s.validFrom .fetch a 2 = true) : s.fetch16 a = some (s.readByte (a + 1) ++ s.readByte a) := by
  rw [State.fetch16, h, cond_true]

theorem fetch16_of_invalid (h : s.validFrom .fetch a 2 = false) : s.fetch16 a = none := by
  rw [State.fetch16, h, cond_false]

/-- Four bytes are valid when the two half-words are. -/
theorem validFrom_four (s : State) (kind : AccessKind) (a : Word) :
    s.validFrom kind a 4 = (s.validFrom kind a 2 && s.validFrom kind (a + 2) 2) := by
  have hshift (k : Nat) : a + 2 + BitVec.ofNat 32 k = a + BitVec.ofNat 32 (2 + k) := by
    rw [BitVec.ofNat_add, ← BitVec.add_assoc]
    rfl
  have hrange : List.range 4 = List.range 2 ++ (List.range 2).map (2 + ·) := rfl
  simp only [State.validFrom, hshift]
  rw [hrange, List.all_append, List.all_map]
  rfl

theorem fetch32_of_invalid (h : s.validFrom .fetch a 4 = false) : s.fetch32 a = none := by
  rw [validFrom_four, Bool.and_eq_false_iff] at h
  rw [State.fetch32]
  obtain h | h := h
  · rw [fetch16_of_invalid h]
  · rw [fetch16_of_invalid h]
    cases s.fetch16 a <;> rfl

theorem fetch32_of_halves {h0 h1 : Half} (h : s.fetch16 a = some h0) (h' : s.fetch16 (a + 2) = some h1) :
    s.fetch32 a = some (h0 ++ h1) := by
  rw [State.fetch32, h, h']

/-! ### The second half-word -/

/-- The 16-bit decoder does not look at the half-word after the first. -/
theorem decodeHalves_of_short {h0 : Half} (h : isWide h0 = false) (h1 h1' : Half) (limm : Word) :
    decodeHalves h0 h1 limm = decodeHalves h0 h1' limm := by
  rw [decodeHalves, decodeHalves, h, cond_false, cond_false]

/-- The half-words at the pc, as far as the first one asks for a second. -/
structure State.FetchesHalves (s : State) (h0 h1 : Half) : Prop where
  first : s.fetch16 s.pc = some h0
  second : isWide h0 = true → s.fetch16 (s.pc + 2) = some h1

theorem fetchesHalves_of_major {h0 h1 : Half} (h : s.fetch16 s.pc = some h0)
    (h' : 8 ≤ (h0.extractLsb' 11 5).toNat ∨ s.fetch16 (s.pc + 2) = some h1) : s.FetchesHalves h0 h1 := by
  refine ⟨h, fun hwide => h'.resolve_left ?_⟩
  rw [isWide_eq, decide_eq_true_iff] at hwide
  exact Nat.not_le.2 hwide

/-- The second half-word that is fetched decodes like the one that stands there. -/
theorem State.FetchesHalves.fetchSecond {h0 h1 : Half} (h : s.FetchesHalves h0 h1) :
    ∃ h1', s.fetchSecond h0 = some h1' ∧ ∀ limm, decodeHalves h0 h1' limm = decodeHalves h0 h1 limm := by
  cases hwide : isWide h0 with
  | true => exact ⟨h1, by rw [State.fetchSecond, hwide, cond_true, h.second hwide], fun _ => rfl⟩
  | false => exact ⟨0#16, by rw [State.fetchSecond, hwide, cond_false], decodeHalves_of_short hwide _ _⟩

/-! ### The instruction at the pc -/

theorem fetchInstr_of_first_invalid (h : s.fetch16 s.pc = none) : s.fetchInstr = none := by
  simp only [State.fetchInstr, h]

theorem fetchInstr_of_second_invalid {h0 : Half} (h : s.fetch16 s.pc = some h0) (h' : s.fetchSecond h0 = none) :
    s.fetchInstr = none := by
  simp only [State.fetchInstr, h, h']

section Halves

variable {h0 h1 : Half} (hf : s.FetchesHalves h0 h1)

include hf

/-- A reading that is no instruction ends the fetch. -/
theorem fetchInstr_of_not_ok {d : Decoded} (hd : decodeHalves h0 h1 0#32 = d) (hok : ∀ i, d ≠ .ok i) :
    s.fetchInstr = some d := by
  obtain ⟨h1', hsecond, hdec⟩ := hf.fetchSecond
  cases d with
  | ok i => exact absurd rfl (hok i)
  | reserved | undefinedForm | truncated => simp only [State.fetchInstr, hf.first, hsecond, hdec, hd]

/-- Without a long immediate the first reading is the instruction. -/
theorem fetchInstr_of_no_limm {i : Instr} (hd : decodeHalves h0 h1 0#32 = .ok i) (hl : i.hasLimm = false) :
    s.fetchInstr = some (.ok i) := by
  obtain ⟨h1', hsecond, hdec⟩ := hf.fetchSecond
  simp only [State.fetchInstr, hf.first, hsecond, hdec, hd, hl, Bool.false_and, cond_false]

/-- With a long immediate the first reading tells where it stands. -/
theorem fetchInstr_of_limm {j : Instr} (hd : decodeHalves h0 h1 0#32 = .ok j) (hl : j.hasLimm = true)
    (hp : present s.cfg j = true) :
    s.fetchInstr = (s.fetch32 (s.pc + BitVec.ofNat 32 j.base)).map (decodeHalves h0 h1) := by
  obtain ⟨h1', hsecond, hdec⟩ := hf.fetchSecond
  simp only [State.fetchInstr, hf.first, hsecond, hdec, hd, hl, hp, Bool.and_self, cond_true]
  cases s.fetch32 (s.pc + BitVec.ofNat 32 j.base) <;> rfl

end Halves

/-! ### What a step makes of it -/

theorem execAtPc_of_none (h : s.fetchInstr = none) : s.execAtPc = .next (s.memoryError s.pc) := by
  simp only [State.execAtPc, h]

theorem execAtPc_of_ok {i : Instr} (h : s.fetchInstr = some (.ok i)) : s.execAtPc = exec i s := by
  simp only [State.execAtPc, h]

theorem execAtPc_of_reserved (h : s.fetchInstr = some .reserved) : s.execAtPc = s.reservedAtPc := by
  simp only [State.execAtPc, h]

theorem execAtPc_of_undefinedForm {u : UndefinedForm} (h : s.fetchInstr = some (.undefinedForm u)) :
    s.execAtPc = .refused (.undefinedEncoding u) := by
  simp only [State.execAtPc, h]

/-- The base length by the major opcode (30_encoding.md R130). -/
theorem baseAtPc_eq {h0 : Half} (h : s.fetch16 s.pc = some h0) :
    s.baseAtPc = if (h0.extractLsb' 11 5).toNat < 8 then 4#32 else 2#32 := by
  simp only [State.baseAtPc, h, isWide_eq, Bool.cond_decide]

/-- Settles O9: each is an outcome of the fetch. -/
theorem fetchExceptions : Obligations.FetchExceptions := by
  refine ⟨fun s hh hz hi => ?memory, fun s h0 h1 hh hz hi hfirst hsecond hd => ?reserved,
    fun s h0 h1 u hh hz hi hfirst hsecond hd => ?undefined⟩
  case memory =>
    have herror (hnone : s.fetchInstr = none) : step s = .next (s.enter .two 1 s.pc) :=
      (step_of_running hh hi hz).trans (execAtPc_of_none hnone)
    refine ⟨fun hinvalid => herror ?_, fun h0 hfirst hwide hinvalid => herror ?_,
      fun h0 h1 i hfirst hsecond hd hl hp hinvalid => herror ?_⟩
    · exact fetchInstr_of_first_invalid (fetch16_of_invalid hinvalid)
    · refine fetchInstr_of_second_invalid hfirst ?_
      rw [State.fetchSecond, isWide_eq, decide_eq_true hwide, cond_true, fetch16_of_invalid hinvalid]
    · rw [fetchInstr_of_limm (fetchesHalves_of_major hfirst hsecond) hd hl hp, fetch32_of_invalid hinvalid, Option.map_none]
  case reserved =>
    have hstep : step s = s.reservedAtPc := (step_of_running hh hi hz).trans
      (execAtPc_of_reserved (fetchInstr_of_not_ok (fetchesHalves_of_major hfirst hsecond) hd nofun))
    rw [hstep, State.reservedAtPc]
    refine ⟨fun hs => ?_, fun hs => ?_⟩
    · rw [hs, baseAtPc_eq hfirst]
      rfl
    · rw [bne_iff_ne.2 hs, cond_true]
  case undefined =>
    exact (step_of_running hh hi hz).trans
      (execAtPc_of_undefinedForm (fetchInstr_of_not_ok (fetchesHalves_of_major hfirst hsecond) hd nofun))

end Sys2Proof.Machine
end

section
/-! An instruction in memory is the one that is fetched (60_exceptions.md R560, 20_memory.md R97 to R99). The fetch reads the
instruction first without its long immediate, so a reading is compared with that of the same instruction with another long
immediate. -/

namespace Sys2Proof

open Machine

/-! ### The same instruction with another long immediate -/

def GenForm.withLimm (w : Word) : GenForm → GenForm
  | .abc f a b c _ => .abc f a b c w
  | .abu6 f a b u _ => .abu6 f a b u w
  | .bbs12 f b s _ => .bbs12 f b s w
  | .ccbbc f b c q _ => .ccbbc f b c q w
  | .ccbbu6 f b u q _ => .ccbbu6 f b u q w

def CmpForm.withLimm (w : Word) : CmpForm → CmpForm
  | .bc b c _ => .bc b c w
  | .bu6 b u _ => .bu6 b u w
  | .bs12 b s _ => .bs12 b s w
  | .ccbc b c q _ => .ccbc b c q w
  | .ccbu6 b u q _ => .ccbu6 b u q w

def MovForm.withLimm (w : Word) : MovForm → MovForm
  | .bc f b c _ => .bc f b c w
  | .ccbc f b c q _ => .ccbc f b c q w
  | form => form

def SopForm.withLimm (w : Word) : SopForm → SopForm
  | .bc f b c _ => .bc f b c w
  | form => form

def JForm.withLimm (w : Word) : JForm → JForm
  | .c r _ => .c r w
  | .ccc r q _ => .ccc r q w
  | form => form

def LrForm.withLimm (w : Word) : LrForm → LrForm
  | .bc b c _ => .bc b c w
  | form => form

def SrForm.withLimm (w : Word) : SrForm → SrForm
  | .bc b c _ => .bc b c w
  | .bs12 b s _ => .bs12 b s w

def LdForm.withLimm (w : Word) : LdForm → LdForm
  | .rr a b c aa di _ => .rr a b c aa di w
  | .s9 a b s aa di _ => .s9 a b s aa di w

def BrForm.withLimm (w : Word) : BrForm → BrForm
  | .bcs9 b c s n _ => .bcs9 b c s n w
  | .bu6s9 b u s n _ => .bu6s9 b u s n w

def Data16.withLimm (w : Word) : Data16 → Data16
  | .addBbh b h _ => .addBbh b h w
  | .movBh b h _ => .movBh b h w
  | .cmpBh b h _ => .cmpBh b h w
  | form => form

/-- The format with another word as its long immediate, where it has a field for one. -/
def Shape.withLimm (w : Word) : Shape → Shape
  | .alu op form => .alu op (form.withLimm w)
  | .test op form => .test op (form.withLimm w)
  | .mul sgn form => .mul sgn (form.withLimm w)
  | .mov form => .mov (form.withLimm w)
  | .sop op form => .sop op (form.withLimm w)
  | .jump link form => .jump link (form.withLimm w)
  | .flag form => .flag (form.withLimm w)
  | .lr form => .lr (form.withLimm w)
  | .sr form => .sr (form.withLimm w)
  | .load kind form => .load kind (form.withLimm w)
  | .store sz c b d aa di _ => .store sz c b d aa di w
  | .br op form => .br op (form.withLimm w)
  | .data16 form => .data16 (form.withLimm w)
  | v => v

section WithLimm

variable (v : Shape) (w : Word)

theorem Shape.withLimm_limmPart_fst : (v.withLimm w).limmPart.1 = v.limmPart.1 := by
  cases v with
  | alu _ form | test _ form | mul _ form | mov form | sop _ form | jump _ form | flag form | lr form | sr form
  | load _ form | br _ form | data16 form => cases form <;> rfl
  | _ => rfl

theorem Shape.withLimm_limmPart_snd (h : v.limmPart.1 = true) : (v.withLimm w).limmPart.2 = w := by
  cases v with
  | alu _ form | test _ form | mul _ form | sr form | load _ form | br _ form => cases form <;> rfl
  | store => rfl
  | mov form =>
    cases form with
    | bc | ccbc => rfl
    | _ => cases h
  | jump _ form | flag form =>
    cases form with
    | c | ccc => rfl
    | _ => cases h
  | sop _ form | lr form =>
    cases form with
    | bc => rfl
    | _ => cases h
  | data16 form =>
    cases form with
    | addBbh | movBh | cmpBh => rfl
    | _ => cases h
  | _ => cases h

theorem Shape.withLimm_fieldsFit : (v.withLimm w).fieldsFit = v.fieldsFit := by
  cases v with
  | mov form | load _ form | br _ form => cases form <;> rfl
  | _ => rfl

theorem Shape.withLimm_isShort : (v.withLimm w).isShort = v.isShort := by
  cases v <;> rfl

/-- The half-words before the long immediate do not depend on it. -/
theorem Shape.withLimm_head : (v.withLimm w).head = v.head := by
  cases v with
  | alu _ form | test _ form | mul _ form | mov form | sop _ form | jump _ form | flag form | lr form | sr form
  | load _ form | br _ form | data16 form => cases form <;> rfl
  | _ => rfl

theorem Shape.withLimm_needs : needs (v.withLimm w) = needs v := by
  cases v with
  | data16 form => cases form <;> rfl
  | _ => rfl

end WithLimm

/-- The instruction with another word as its long immediate. -/
def Instr.withLimm (i : Instr) (w : Word) : Instr := Instr.ofShape (i.shape.withLimm w)

section WithLimm

variable {i : Instr} (w : Word)

theorem Instr.shape_withLimm : (i.withLimm w).shape = i.shape.withLimm w := Instr.shape_ofShape _

theorem Instr.hasLimm_withLimm : (i.withLimm w).hasLimm = i.hasLimm := by
  rw [Instr.hasLimm, Instr.shape_withLimm, Shape.withLimm_limmPart_fst, Instr.hasLimm]

theorem Instr.base_withLimm : (i.withLimm w).base = i.base := by
  rw [Instr.base, Instr.shape_withLimm, Shape.withLimm_isShort, Instr.base]

theorem Instr.present_withLimm (cfg : Config) : present cfg (i.withLimm w) = present cfg i := by
  rw [present, Instr.shape_withLimm, Shape.withLimm_needs, present]

theorem Instr.wf_withLimm (hi : i.wf = true) (hl : i.hasLimm = true) : (i.withLimm w).wf = true := by
  obtain ⟨-, hfit⟩ := Shape.wf_iff.1 hi
  have hl' : (i.shape.withLimm w).limmPart.1 = true := (Shape.withLimm_limmPart_fst _ w).trans hl
  rw [Instr.wf, Instr.shape_withLimm, Shape.wf_iff, hl', Shape.withLimm_fieldsFit]
  exact ⟨rfl, hfit⟩

end WithLimm

/-! ### The half-words of an encoding decode to it -/

/-- The first half-words of an encoding decode to every instruction that has them, with its own long immediate. -/
theorem exists_halves_of_head {i : Instr} (hi : i.wf = true) :
    ∃ h0 h1, i.shape.head[0]? = some h0 ∧ (isWide h0 = true → i.shape.head[1]? = some h1) ∧
      ∀ j : Instr, j.wf = true → j.shape.head = i.shape.head → decodeHalves h0 h1 j.shape.limmPart.2 = .ok j := by
  obtain ⟨h0, h1, hhead, -, -⟩ | ⟨h0, hhead, hshort, -⟩ := decodeHalves_head hi
  · refine ⟨h0, h1, by rw [hhead]; rfl, fun _ => by rw [hhead]; rfl, fun j hj hij => ?_⟩
    obtain ⟨h0', h1', hhead', -, hd⟩ | ⟨h0', hhead', -, -⟩ := decodeHalves_head hj
    · obtain ⟨rfl, rfl⟩ : h0' = h0 ∧ h1' = h1 := by simpa using hhead'.symm.trans (hij.trans hhead)
      exact hd
    · cases hhead'.symm.trans (hij.trans hhead)
  · refine ⟨h0, 0#16, by rw [hhead]; rfl, fun hwide => absurd (hshort.symm.trans hwide) Bool.false_ne_true,
      fun j hj hij => ?_⟩
    obtain ⟨h0', h1', hhead', -, -⟩ | ⟨h0', hhead', -, hd⟩ := decodeHalves_head hj
    · cases hhead'.symm.trans (hij.trans hhead)
    · obtain rfl : h0' = h0 := by simpa using hhead'.symm.trans (hij.trans hhead)
      exact hd 0#16

namespace Machine

variable {s : State}

/-! ### Half-words from their bytes -/

/-- The bytes of a half-word among those of a list (20_memory.md R97). -/
theorem getElem?_bytesOfHalves {hs : List Half} {k : Nat} {h : Half} (hk : hs[k]? = some h) :
    (bytesOfHalves hs)[2 * k]? = some (h.extractLsb' 0 8) ∧ (bytesOfHalves hs)[2 * k + 1]? = some (h.extractLsb' 8 8) := by
  induction hs generalizing k with
  | nil => cases hk
  | cons x hs ih =>
    cases k with
    | zero =>
      obtain rfl : x = h := Option.some.inj hk
      exact ⟨rfl, rfl⟩
    | succ k => exact ih hk

/-- The half-words whose bytes stand in valid memory from the pc on. -/
def State.HoldsHalves (s : State) (hs : List Half) : Prop :=
  ∀ (k : Nat) (b : Byte), (bytesOfHalves hs)[k]? = some b →
    s.readByte (s.pc + BitVec.ofNat 32 k) = b ∧ memValid s.cfg .fetch (s.pc + BitVec.ofNat 32 k).toNat = true

theorem State.HoldsHalves.fetch16 {hs : List Half} (hm : s.HoldsHalves hs) {k : Nat} {h : Half} (hk : hs[k]? = some h) :
    s.fetch16 (s.pc + BitVec.ofNat 32 (2 * k)) = some h := by
  obtain ⟨hlo, hhi⟩ := getElem?_bytesOfHalves hk
  obtain ⟨hlo, hvlo⟩ := hm _ _ hlo
  obtain ⟨hhi, hvhi⟩ := hm _ _ hhi
  have hnext : s.pc + BitVec.ofNat 32 (2 * k + 1) = s.pc + BitVec.ofNat 32 (2 * k) + 1 := by
    rw [BitVec.ofNat_add, ← BitVec.add_assoc]
    rfl
  rw [hnext] at hhi hvhi
  have hvalid : s.validFrom .fetch (s.pc + BitVec.ofNat 32 (2 * k)) 2 = true := by
    have hrange : List.range 2 = [0, 1] := rfl
    have hzero : s.pc + BitVec.ofNat 32 (2 * k) + BitVec.ofNat 32 0 = s.pc + BitVec.ofNat 32 (2 * k) := BitVec.add_zero _
    have hone : BitVec.ofNat 32 1 = 1 := rfl
    rw [State.validFrom, hrange, List.all_cons, hzero, hvlo, List.all_cons, hone, hvhi]
    rfl
  rw [fetch16_of_valid hvalid, hlo, hhi]
  exact congrArg some (BitVec.extractLsb'_append_extractLsb' (w := 8) (len := 8))

/-- The instruction whose half-words stand at the pc is fetched, unless it is absent. -/
theorem State.HoldsHalves.fetchInstr {i : Instr} (hi : i.wf = true) (hm : s.HoldsHalves (encode i))
    (hp : present s.cfg i = true) : s.fetchInstr = some (.ok i) := by
  obtain ⟨h0, h1, hfirst, hsecond, hdec⟩ := exists_halves_of_head hi
  have hhead {k : Nat} {h : Half} (hk : i.shape.head[k]? = some h) : (encode i)[k]? = some h := by
    obtain ⟨hlt, -⟩ := List.getElem?_eq_some_iff.1 hk
    rw [encode_eq, List.getElem?_append_left hlt, hk]
  have hf : s.FetchesHalves h0 h1 := by
    have hpc : s.pc + BitVec.ofNat 32 (2 * 0) = s.pc := BitVec.add_zero _
    exact ⟨hpc ▸ hm.fetch16 (k := 0) (hhead hfirst), fun hwide => hm.fetch16 (k := 1) (hhead (hsecond hwide))⟩
  have hd := hdec i hi rfl
  cases hl : i.hasLimm with
  | false => exact fetchInstr_of_no_limm hf (limm_eq_zero hi hl ▸ hd) hl
  | true =>
    have hzero : decodeHalves h0 h1 0#32 = .ok (i.withLimm 0#32) := by
      have h := hdec (i.withLimm 0#32) (Instr.wf_withLimm 0#32 hi hl)
      rw [Instr.shape_withLimm, Shape.withLimm_limmPart_snd _ _ hl] at h
      exact h (Shape.withLimm_head ..)
    have htail (k : Nat) : (encode i)[i.shape.head.length + k]? = (halvesOfWord i.shape.limmPart.2)[k]? := by
      rw [encode_eq, hl, cond_true, List.getElem?_append_right (Nat.le_add_right ..), Nat.add_sub_cancel_left]
    have hupper := hm.fetch16 (htail 0)
    have hlower := hm.fetch16 (htail 1)
    rw [Nat.mul_add, length_head] at hupper hlower
    rw [Nat.mul_zero, Nat.add_zero] at hupper
    rw [BitVec.ofNat_add, ← BitVec.add_assoc] at hlower
    rw [fetchInstr_of_limm hf hzero ((Instr.hasLimm_withLimm _).trans hl) ((Instr.present_withLimm _ _).trans hp),
      Instr.base_withLimm, fetch32_of_halves hupper hlower, append_halves, Option.map_some, hd]

/-- Settles O4: the fetch gives the instruction back. -/
theorem stepRunsDecoded : Obligations.StepRunsDecoded := by
  intro i s hi hh hz hint hp hbytes
  have hm : s.HoldsHalves (encode i) := hbytes
  exact (step_of_running hh hint hz).trans (execAtPc_of_ok (hm.fetchInstr hi hp))

end Machine

end Sys2Proof
end

section
/-! Loads and stores that take Memory Error or stop by name (60_exceptions.md R577; 44_load_store.md R443, R446; 20_memory.md
R93). -/

namespace Sys2Proof.Machine

variable {s : State}

/-! ### The shared meanings -/

theorem isAligned_eq_false_iff (sz : Size) (a : Word) : isAligned sz a = false ↔ a.toNat % sizeBytes sz ≠ 0 := by
  rw [← Bool.not_eq_true, isAligned_iff]

/-- What an access of an address gives when it does not complete: Memory Error where an aligned access meets no valid memory,
with the address after the instruction (log 24), and a stop where the address is not aligned (log 11). -/
def State.AccessFails (s : State) (l : Len) (kind : AccessKind) (sz : Size) (addr : Word) (r : Result) : Prop :=
  (addr.toNat % sizeBytes sz = 0 → s.validFrom kind addr (sizeBytes sz) = false → r = .next (s.enter .two 1 (s.npc l))) ∧
  (addr.toNat % sizeBytes sz ≠ 0 → r = .refused .misaligned)

/-- The two checks of an access before it is performed. -/
theorem accessFails (s : State) (l : Len) (kind : AccessKind) (sz : Size) (addr : Word) (k : Result) :
    s.AccessFails l kind sz addr
      (bif !isAligned sz addr then .refused .misaligned
        else bif !s.validFrom kind addr (sizeBytes sz) then .next (s.memoryError (s.npc l)) else k) := by
  refine ⟨fun ha hv => ?_, fun ha => ?_⟩
  · rw [(isAligned_iff sz addr).2 ha, hv]
    rfl
  · rw [(isAligned_eq_false_iff sz addr).2 ha]
    rfl

theorem runLoad_fails {sgn : Bool} {dest : Reg} {x : MemArgs} {base off addr : Word} {w : Option Word} (hd : dest ≠ 60#6)
    (hn : s.NoHazard x.len none) (hb : s.value x.len 0 x.base = .ok base) (ho : s.value x.len 1 x.offset = .ok off)
    (hea : effAddr x.size base off x.aa = (addr, w)) : s.AccessFails x.len .load x.size addr (runLoad sgn dest x s) := by
  have hne : (dest == 60#6) = false := beq_false_of_ne hd
  rw [runLoad, hn.start_eq, hne, cond_false, hb, withValue_ok, ho, withValue_ok, hea]
  exact accessFails ..

theorem runLoad_toLpCount {sgn : Bool} {x : MemArgs} (hn : s.NoHazard x.len none) :
    runLoad sgn 60#6 x s = .refused .loadToLpCount := by
  rw [runLoad, hn.start_eq, beq_self_eq_true, cond_true]

theorem runStore_fails {data : Operand} {x : MemArgs} {base off addr v : Word} {w : Option Word} (hn : s.NoHazard x.len none)
    (hb : s.value x.len 0 x.base = .ok base) (hd : s.value x.len 1 data = .ok v) (ho : s.value x.len 1 x.offset = .ok off)
    (hea : effAddr x.size base off x.aa = (addr, w)) : s.AccessFails x.len .store x.size addr (runStore data x s) := by
  rw [runStore, hn.start_eq, hb, withValue_ok, hd, withValue_ok, ho, withValue_ok, hea]
  exact accessFails ..

/-! ### The formats -/

theorem exec_load_fails {kind : LdKind} {form : LdForm} {x : MemArgs} {base off : Word} (hx : ldArgs (ldSize kind) form = x)
    (hd : ldDest form ≠ 60#6) (hn : s.NoHazard x.len none) (hb : s.value x.len 0 x.base = .ok base)
    (ho : s.value x.len 1 x.offset = .ok off) :
    s.AccessFails x.len .load (ldSize kind) (effAddr (ldSize kind) base off x.aa).1 (exec (Instr.ofLoad kind form) s) := by
  have hexec : exec (Instr.ofLoad kind form) s = (Shape.load kind form).run s := exec_ofShape (.load kind form) s
  have hsize : x.size = ldSize kind := by
    subst hx
    cases form <;> rfl
  rw [hexec, Shape.run, hx, ← hsize]
  exact runLoad_fails hd hn hb ho rfl

theorem exec_store_fails (sz : Size) {r b : Reg} {l : Len} (d : BitVec 9) (aa : BitVec 2) (di : Bool) {limm base v : Word}
    (hl : ⟨false, b == 62#6 || r == 62#6⟩ = l) (hn : s.NoHazard l none) (hb : s.readCore l 0 b limm = .ok base)
    (hd : s.readCore l 1 r limm = .ok v) :
    s.AccessFails l .store sz (effAddr sz base (d.signExtend 32) aa).1
      (exec (Instr.ofShape (.store sz r b d aa di limm)) s) := by
  subst hl
  rw [exec_ofShape]
  exact runStore_fails (x := stArgs sz r b d aa limm) hn hb hd ((reads_simm_zero s d).value _ 1) rfl

/-- A 16-bit load, from what its operands read and the address they give. -/
theorem exec_load16_fails (form : Ld16) {base off addr : Word} {w : Option Word} (hn : s.NoHazard len16 none)
    (hb : s.Reads form.args.base base) (ho : s.Reads form.args.offset off)
    (hea : effAddr form.args.size base off form.args.aa = (addr, w)) :
    s.AccessFails len16 .load form.args.size addr (exec (Instr.ofShape (.load16 form)) s) := by
  have hd : form.dest ≠ 60#6 := fun h => absurd (h ▸ form.dest_lt_32) (by decide)
  rw [exec_ofShape, ← form.args_len]
  exact runLoad_fails hd (form.args_len ▸ hn) (hb.value _ 0) (ho.value _ 1) hea

/-- A 16-bit store, from what its operands read and the address they give. -/
theorem exec_store16_fails (form : St16) {base off addr v : Word} {w : Option Word} (hn : s.NoHazard len16 none)
    (hb : s.Reads form.args.base base) (hd : s.Reads form.data v) (ho : s.Reads form.args.offset off)
    (hea : effAddr form.args.size base off form.args.aa = (addr, w)) :
    s.AccessFails len16 .store form.args.size addr (exec (Instr.ofShape (.store16 form)) s) := by
  rw [exec_ofShape, ← form.args_len]
  exact runStore_fails (form.args_len ▸ hn) (hb.value _ 0) (hd.value _ 1) (ho.value _ 1) hea

/-- Settles O35: the 32-bit forms by the checks of the shared meanings, and each 16-bit form with the operands it reads. -/
theorem dataAccessExceptions : Obligations.DataAccessExceptions := by
  refine ⟨⟨fun kind form s base off hd hn hb ho => (exec_load_fails rfl hd hn hb ho).1,
    fun sz r b d aa di limm s base v hn hb hv => (exec_store_fails sz d aa di rfl hn hb hv).1⟩,
    ⟨fun kind form s base off hn => ⟨fun hd => ?toLpCount, fun hd hb ho => (exec_load_fails rfl hd hn hb ho).2⟩,
      fun sz r b d aa di limm s base v hn hb hv => (exec_store_fails sz d aa di rfl hn hb hv).2⟩, ?short⟩
  case toLpCount =>
    have hrun := runLoad_toLpCount (sgn := ldSigned kind) hn
    rw [← hd] at hrun
    exact (exec_ofShape (.load kind form) s).trans hrun
  case short =>
    intro s a b c u5 u8 s9 hn y z sp gp fails
    have hreg := reads_op16 s
    have hsp := reads_rSP s
    have hgp := reads_rGP s
    have hblink : s.Reads (.reg rBLINK 0#32) (s.reg 31) := reads_reg s 0#32 (by decide)
    have hu0 := reads_uimm_zero s u5
    have hu1 := reads_uimm_one s u5
    have hu2 := reads_uimm_two s u5
    exact ⟨exec_load16_fails (.abc .long a b c) hn (hreg b) (hreg c) rfl,
      exec_load16_fails (.abc .byte a b c) hn (hreg b) (hreg c) rfl,
      exec_load16_fails (.abc .half a b c) hn (hreg b) (hreg c) rfl,
      exec_load16_fails (.cbu .long c b u5) hn (hreg b) hu2 rfl,
      exec_load16_fails (.cbu .byte c b u5) hn (hreg b) hu0 rfl,
      exec_load16_fails (.cbu .half c b u5) hn (hreg b) hu1 rfl,
      exec_load16_fails (.cbuX c b u5) hn (hreg b) hu1 rfl,
      exec_load16_fails (.sp false b u5) hn hsp hu2 rfl,
      exec_load16_fails (.sp true b u5) hn hsp hu2 rfl,
      exec_load16_fails (.gp .long s9) hn hgp (reads_simm_two s s9) rfl,
      exec_load16_fails (.gp .byte s9) hn hgp (reads_simm_zero s s9) rfl,
      exec_load16_fails (.gp .half s9) hn hgp (reads_simm_one s s9) rfl,
      exec_load16_fails (.pcl b u8) hn (reads_pcl s) (reads_uimm_two s u8) rfl,
      exec_load16_fails (.pop b) hn hsp (reads_imm s _) rfl,
      exec_load16_fails .popBlink hn hsp (reads_imm s _) rfl,
      exec_store16_fails (.cbu .long c b u5) hn (hreg b) (hreg c) hu2 rfl,
      exec_store16_fails (.cbu .byte c b u5) hn (hreg b) (hreg c) hu0 rfl,
      exec_store16_fails (.cbu .half c b u5) hn (hreg b) (hreg c) hu1 rfl,
      exec_store16_fails (.sp false b u5) hn hsp (hreg b) hu2 rfl,
      exec_store16_fails (.sp true b u5) hn hsp (hreg b) hu2 rfl,
      exec_store16_fails (.push b) hn hsp (hreg b) (reads_imm s _) (effAddr_push _),
      exec_store16_fails .pushBlink hn hsp hblink (reads_imm s _) (effAddr_push _)⟩

end Sys2Proof.Machine
end

section
/-! Instructions that stop by name because of what came before (70_reset_and_hazards.md R645, R655, R656; 43_branch_jump_loop.md
R373, R375; 45_aux_system.md R493 to R495), or because they read r61 (10_state.md R26). -/

namespace Sys2Proof

open Machine

/-! ### The beginning of an instruction -/

namespace Machine

variable {s : State} {l : Len} {o : Option Opt}

theorem start_of_haltShadow (hs : s.haltShadow ≠ 0) (l : Len) (o : Option Opt) (k : Result) :
    s.start l o k = .refused .haltShadow := by
  rw [State.start, bne_iff_ne.2 hs, cond_true]

theorem start_of_limm (hs : s.haltShadow = 0) (ho : ∀ x, o = some x → s.cfg.has x = true) (hp : s.prevDslot = true)
    (hl : l.limm = true) (k : Result) : s.start l o k = .refused .limmInDelaySlot := by
  have hoption : (o.any fun x => !s.cfg.has x) = false := by
    cases o with
    | none => rfl
    | some x => exact congrArg not (ho x rfl)
  rw [State.start, hs, hoption, hp, hl]
  rfl

/-- The implementation has the component that a present instruction needs. -/
theorem has_of_present {cfg : Config} {i : Instr} (h : present cfg i = true) {x : Opt} (hx : needs i.shape = some x) :
    cfg.has x = true := by
  rw [present, hx] at h
  simpa using h

end Machine

/-- Every instruction but the NOPs begins with the checks of `State.start`. -/
theorem Shape.exists_run_eq_start {v : Shape} (hv : v ≠ .nop) (hv' : v ≠ .nop16) (s : State) :
    ∃ k, v.run s = s.start v.len (needs v) k := by
  have starts {l : Len} {o : Option Opt} {k : Result} (hl : l = v.len) (ho : o = needs v) :
      ∃ k', s.start l o k = s.start v.len (needs v) k' := ⟨k, by rw [hl, ho]⟩
  cases v with
  | nop => exact absurd rfl hv
  | nop16 => exact absurd rfl hv'
  | alu op form => exact starts (genArgs_len form) rfl
  | test op form => exact starts (cmpArgs_len form) rfl
  | mul sgn form => exact starts (cmpArgs_len form) rfl
  | mov form => exact starts (movArgs_len form) rfl
  | sop op form => exact starts (sopArgs_len form) rfl
  | data16 form => exact starts form.args_len (needs_data16 form).symm
  | load kind form => exact starts (ldArgs_len _ form) rfl
  | load16 form => exact starts form.args_len rfl
  | store16 form => exact starts form.args_len rfl
  | flag form => exact starts (jArgs_len form) rfl
  | lr form => exact starts (lrArgs_len form) rfl
  | sr form => exact starts (srArgs_len form) rfl
  | jump | jumpD | bcc | bfar | blcc | bl | br | ctl16 => exact starts (Shape.len_of_branchArgs rfl) rfl
  | mul16 | store | jumpF | lp | sleep | swi | brk => exact starts rfl rfl

/-! ### Placements -/

namespace Machine

variable {s : State} {l : Len}

theorem runBranch_inDelaySlot {x : BranchArgs} (hn : s.NoHazard x.len none) (hp : s.prevDslot = true) :
    runBranch x s = .refused .branchInDelaySlot := by
  rw [runBranch, hn.start_eq, hp, cond_true]

theorem runReturn_inDelaySlot (form : JFForm) (hn : s.NoHazard ⟨false, false⟩ none) (hp : s.prevDslot = true) :
    runReturn form s = .refused .branchInDelaySlot := by
  rw [runReturn, hn.start_eq, hp, cond_true]

theorem runLp_inDelaySlot (form : LpForm) (hn : s.NoHazard ⟨false, false⟩ none) (hp : s.prevDslot = true) :
    runLp form s = .refused .branchInDelaySlot := by
  rw [runLp, hn.start_eq, hp, cond_true]

theorem runReturn_tooSoon (form : JFForm) (hn : s.NoHazard ⟨false, false⟩ none) (hp : s.prevDslot = false)
    (h : s.prevFlag = true ∨ s.prevSrStatusL = true) : runReturn form s = .refused .returnTooSoon := by
  rw [runReturn, hn.start_eq, hp, cond_false, Bool.or_eq_true_iff.2 h, cond_true]

theorem runSleep_afterCompareBranch (hn : s.NoHazard l none) (hp : s.prevCmpBranch = true) :
    runSleep l s = .refused .afterCompareBranch := by
  rw [runSleep, hn.start_eq, hp, cond_true]

theorem runSwi_afterCompareBranch (hn : s.NoHazard l none) (hp : s.prevCmpBranch = true) :
    runSwi l s = .refused .afterCompareBranch := by
  rw [runSwi, hn.start_eq, hp, cond_true]

theorem runSwi_inDelaySlot {t : Word} (hn : s.NoHazard l none) (hp : s.prevCmpBranch = false) (hd : s.delayTarget = some t) :
    runSwi l s = .refused .swiInDelaySlot := by
  rw [runSwi, hn.start_eq, hp, cond_false, hd, Option.isSome_some, cond_true]

theorem runBreak_inDelaySlot {t : Word} (hn : s.NoHazard l none) (hd : s.delayTarget = some t) :
    runBreak l s = .refused .breakInDelaySlot := by
  rw [runBreak, hn.start_eq, hd, Option.isSome_some, cond_true]

theorem runSr_mulHiBusy {x : DataArgs} {v : Word} (hn : s.NoHazard x.len none) (hv : s.value1 x = .ok v)
    (ha : s.value x.len 1 x.src2 = .ok 0x12#32) (hmul : s.cfg.hasMul64 = true)
    (hbusy : (s.afterReads x.sources).mulBusy = true) : runSr x s = .refused .mulHiBusy := by
  simp only [runSr, hn.start_eq, hv, ha, withValue_ok, beq_self_eq_true, hmul, hbusy, Bool.and_self, cond_true]

/-! ### A read of r61 -/

/-- LP_COUNT reads as stored or as a free value (70_reset_and_hazards.md R652, R654). -/
theorem exists_readCore_60 (s : State) (l : Len) (slot : Nat) (limm : Word) : ∃ v, s.readCore l slot 60#6 limm = .ok v := by
  simp [State.readCore, isMulReg]

/-- A read is refused for r61 alone. -/
theorem value_ok_or_reserved (s : State) (l : Len) (slot : Nat) (o : Operand) :
    (∃ v, s.value l slot o = .ok v) ∨ s.value l slot o = .error .reservedRegister := by
  cases o with
  | imm w => exact .inl ⟨w, rfl⟩
  | reg r limm =>
    by_cases hlt : r.toNat < 60
    · exact .inl (exists_readCore_of_lt_60 s l slot limm hlt)
    · have hcases : ∀ r : Reg, ¬ r.toNat < 60 → r = 60#6 ∨ r = 61#6 ∨ r = 62#6 ∨ r = 63#6 := by decide
      obtain rfl | rfl | rfl | rfl := hcases r hlt
      · exact .inl (exists_readCore_60 s l slot limm)
      · exact .inr (readCore_61 s l slot limm)
      · exact .inl ⟨_, readCore_62 s l slot limm⟩
      · exact .inl ⟨_, readCore_63 s l slot limm⟩

/-- An instruction that goes on with an operand is refused when the operand is r61, or when all it goes on to is. -/
theorem withValue_reserved {slot : Nat} {o : Operand} {limm : Word} {k : Word → Result}
    (h : .reg 61#6 limm = o ∨ ∀ v, k v = .refused .reservedRegister) :
    withValue (s.value l slot o) k = .refused .reservedRegister := by
  obtain ⟨v, hv⟩ | hr := value_ok_or_reserved s l slot o
  · obtain rfl | h := h
    · cases (readCore_61 s l slot limm).symm.trans hv
    · rw [hv, withValue_ok, h]
  · rw [hr, withValue_error]

/-- The sources of a data format are read in their order. -/
theorem withValue_sources_reserved {x : DataArgs} {limm : Word} (h : .reg 61#6 limm ∈ x.sources) (k : Word → Word → Result) :
    (withValue (s.value1 x) fun a => withValue (s.value x.len 1 x.src2) (k a)) = .refused .reservedRegister := by
  have hsecond (h : Operand.reg 61#6 limm = x.src2) (a : Word) :
      withValue (s.value x.len 1 x.src2) (k a) = .refused .reservedRegister := withValue_reserved (.inl h)
  unfold State.value1
  unfold DataArgs.sources at h
  cases hsrc : x.src1 with
  | none =>
    rw [hsrc] at h
    exact hsecond (List.mem_singleton.1 h) 0#32
  | some o =>
    rw [hsrc] at h
    exact withValue_reserved ((List.mem_cons.1 h).imp_right fun h => hsecond (List.mem_singleton.1 h))

theorem branchTaken_reserved {x : BranchArgs} {limm : Word} (h : .reg 61#6 limm ∈ x.test.operands) :
    s.branchTaken x = .error .reservedRegister := by
  unfold State.branchTaken
  cases htest : x.test with
  | always | cond => rw [htest] at h; cases h
  | cmp op o₁ o₂ =>
    rw [htest] at h
    obtain ⟨a, ha⟩ | ha := value_ok_or_reserved s x.len 0 o₁
    · obtain rfl | h := List.mem_cons.1 h
      · cases (readCore_61 s x.len 0 limm).symm.trans ha
      · obtain rfl := List.mem_singleton.1 h
        have hb : s.value x.len 1 (.reg 61#6 limm) = .error .reservedRegister := readCore_61 ..
        simp only [ha, hb]
    · simp only [ha]

section Reads

variable {limm : Word}

theorem runData_reserved {op : DataOp} {x : DataArgs} (hn : s.NoHazard x.len (dataNeeds op)) (hc : s.condMet x.cond = true)
    (h : .reg 61#6 limm ∈ x.sources) : runData op x s = .refused .reservedRegister := by
  rw [runData, hn.start_eq, hc, cond_true]
  exact withValue_sources_reserved h _

theorem runMul_reserved {sgn : Bool} {x : DataArgs} (hn : s.NoHazard x.len (some .mul64)) (hc : s.condMet x.cond = true)
    (h : .reg 61#6 limm ∈ x.sources) : runMul sgn x s = .refused .reservedRegister := by
  rw [runMul, hn.start_eq, hc, cond_true]
  exact withValue_sources_reserved h _

theorem runSr_reserved {x : DataArgs} (hn : s.NoHazard x.len none) (h : .reg 61#6 limm ∈ x.sources) :
    runSr x s = .refused .reservedRegister := by
  rw [runSr, hn.start_eq]
  exact withValue_sources_reserved h _

theorem runFlag_reserved {x : DataArgs} (hn : s.NoHazard x.len none) (hc : s.condMet x.cond = true)
    (h : .reg 61#6 limm = x.src2) : runFlag x s = .refused .reservedRegister := by
  rw [runFlag, hn.start_eq, hc, cond_true]
  exact withValue_reserved (.inl h)

theorem runLr_reserved {x : DataArgs} (hn : s.NoHazard x.len none) (h : .reg 61#6 limm = x.src2) :
    runLr x s = .refused .reservedRegister := by
  rw [runLr, hn.start_eq]
  exact withValue_reserved (.inl h)

theorem runLoad_reserved {sgn : Bool} {dest : Reg} {x : MemArgs} (hn : s.NoHazard x.len none) (hd : dest ≠ 60#6)
    (h : .reg 61#6 limm ∈ [x.base, x.offset]) : runLoad sgn dest x s = .refused .reservedRegister := by
  rw [runLoad, hn.start_eq, beq_false_of_ne hd, cond_false]
  exact withValue_reserved ((List.mem_cons.1 h).imp_right fun h _ => withValue_reserved (.inl (List.mem_singleton.1 h)))

theorem runStore_reserved {data : Operand} {x : MemArgs} (hn : s.NoHazard x.len none)
    (h : .reg 61#6 limm ∈ [x.base, data, x.offset]) : runStore data x s = .refused .reservedRegister := by
  rw [runStore, hn.start_eq]
  exact withValue_reserved ((List.mem_cons.1 h).imp_right fun h _ =>
    withValue_reserved ((List.mem_cons.1 h).imp_right fun h _ => withValue_reserved (.inl (List.mem_singleton.1 h))))

/-- A branch reads what it tests; the operand of its target only when it is taken. -/
theorem runBranch_reserved {x : BranchArgs} (hn : s.NoHazard x.len none) (hp : s.prevDslot = false)
    (hc : s.condMet x.test.condCode = true)
    (h : .reg 61#6 limm ∈ x.test.operands ∨ (x.test.isCmp = false ∧ .reg 61#6 limm ∈ x.target.operands)) :
    runBranch x s = .refused .reservedRegister := by
  rw [runBranch, hn.start_eq, hp, cond_false]
  obtain h | ⟨hcmp, h⟩ := h
  · rw [branchTaken_reserved h, withValue_error]
  · have htaken : s.branchTaken x = .ok true := by
      unfold State.branchTaken
      cases htest : x.test with
      | always => rfl
      | cond q => rw [htest] at hc; exact congrArg _ hc
      | cmp => rw [htest] at hcmp; cases hcmp
    have htarget : s.branchTarget x = .error .reservedRegister := by
      unfold State.branchTarget
      cases ht : x.target with
      | rel => rw [ht] at h; cases h
      | abs o =>
        rw [ht] at h
        obtain rfl := List.mem_singleton.1 h
        have ho : s.value x.len 1 (.reg 61#6 limm) = .error .reservedRegister := readCore_61 ..
        simp only [ho]
    rw [htaken, withValue_ok, cond_true, htarget, withValue_error]

end Reads

@[simp] theorem testOf_condCode (c : Option (BitVec 5)) : (testOf c).condCode = c := by cases c <;> rfl

end Machine

/-! ### The operands of the formats -/

theorem jArgs_sources (form : JForm) : (jArgs form).sources = [(jArgs form).src2] := by cases form <;> rfl
theorem lrArgs_sources (form : LrForm) : (lrArgs form).sources = [(lrArgs form).src2] := by cases form <;> rfl

theorem Ctl16.isCmp_of_mem_target {form : Ctl16} {o : Operand} (h : o ∈ form.args.target.operands) :
    form.args.test.isCmp = false := by
  cases form with
  | br => cases h
  | b cond => cases cond <;> rfl
  | _ => rfl

theorem Shape.cond_of_branchArgs {v : Shape} {x : BranchArgs} (h : v.branchArgs = some x) : v.cond = x.test.condCode := by
  cases v with
  | jump link form | jumpD link form => obtain rfl := Option.some.inj h; exact (testOf_condCode _).symm
  | bcc | bfar | blcc | bl | ctl16 => obtain rfl := Option.some.inj h; rfl
  | br op form => obtain rfl := Option.some.inj h; cases form <;> rfl
  | _ => cases h

/-- What a branch reads is an operand of its test, or of its target when its test reads nothing. -/
theorem Shape.mem_operands_of_mem_sources {v : Shape} {x : BranchArgs} {o : Operand} (h : v.branchArgs = some x)
    (ho : o ∈ v.sources) : o ∈ x.test.operands ∨ (x.test.isCmp = false ∧ o ∈ x.target.operands) := by
  cases v with
  | jump link form | jumpD link form => obtain rfl := Option.some.inj h; exact .inr ⟨testOf_isCmp _, ho⟩
  | bcc | bfar | blcc | bl => cases ho
  | br op form => obtain rfl := Option.some.inj h; exact .inl ho
  | ctl16 form =>
    obtain rfl := Option.some.inj h
    exact (List.mem_append.1 ho).imp_right fun h => ⟨Ctl16.isCmp_of_mem_target h, h⟩
  | _ => cases h

/-- An instruction whose condition is true is refused when it reads r61. -/
theorem Shape.run_reserved {v : Shape} {s : State} {limm : Word} (h : .reg 61#6 limm ∈ v.sources)
    (hc : s.condMet v.cond = true) (hn : s.NoHazard v.len (needs v)) (hp : ∀ x, v.branchArgs = some x → s.prevDslot = false)
    (hd : ∀ kind form, v = .load kind form → ldDest form ≠ 60#6) : v.run s = .refused .reservedRegister := by
  have branch {x : BranchArgs} (hx : v.branchArgs = some x) (hneeds : needs v = none) :
      runBranch x s = .refused .reservedRegister :=
    runBranch_reserved (Shape.len_of_branchArgs hx ▸ hneeds ▸ hn) (hp x hx) (Shape.cond_of_branchArgs hx ▸ hc)
      (Shape.mem_operands_of_mem_sources hx h)
  cases v with
  | alu op form => exact runData_reserved (genArgs_len form ▸ hn) hc h
  | test op form => exact runData_reserved (cmpArgs_len form ▸ hn) hc h
  | mov form => exact runData_reserved (movArgs_len form ▸ hn) hc h
  | sop op form => exact runData_reserved (sopArgs_len form ▸ hn) (sopArgs_cond form ▸ hc) h
  | data16 form => exact runData_reserved (form.args_len ▸ needs_data16 form ▸ hn) hc h
  | mul sgn form => exact runMul_reserved (cmpArgs_len form ▸ hn) hc h
  | mul16 b c => exact runMul_reserved hn hc h
  | load kind form => exact runLoad_reserved (ldArgs_len _ form ▸ hn) (hd kind form rfl) h
  | load16 form =>
    exact runLoad_reserved (form.args_len ▸ hn) (fun h => absurd (h ▸ form.dest_lt_32) (by decide)) h
  | store => exact runStore_reserved hn h
  | store16 form => exact runStore_reserved (form.args_len ▸ hn) h
  | flag form =>
    have hsrc : Operand.reg 61#6 limm ∈ (jArgs form).sources := h
    exact runFlag_reserved (jArgs_len form ▸ hn) hc (List.mem_singleton.1 (jArgs_sources form ▸ hsrc))
  | lr form =>
    have hsrc : Operand.reg 61#6 limm ∈ (lrArgs form).sources := h
    exact runLr_reserved (lrArgs_len form ▸ hn) (List.mem_singleton.1 (lrArgs_sources form ▸ hsrc))
  | sr form => exact runSr_reserved (srArgs_len form ▸ hn) h
  | jump | jumpD | bcc | bfar | blcc | bl | br | ctl16 => exact branch rfl rfl
  | nop | jumpF | lp | sleep | swi | nop16 | brk => cases h

namespace Machine

/-- Settles O52: the checks of `State.start` come first, then those of each kind of instruction, then its operands. -/
theorem hazardStops : Obligations.HazardStops := by
  refine ⟨fun i s hnop hnop16 hs => ?shadow, fun i s hl hpres hs hp => ?limm, fun i s hl hs hp hkind => ?transfer,
    fun s hs hp => ?cmpBranch, fun s t hs hd => ?slot, fun form s hs hp h => ?tooSoon,
    fun form s v hn hv ha hmul hbusy => ?mulHi, fun i limm s h hc hpres hs hl hp hd => ?reserved⟩
  case shadow =>
    obtain ⟨k, hrun⟩ := Shape.exists_run_eq_start (v := i.shape) (fun h => hnop (Instr.eq_of_shape_eq h))
      (fun h => hnop16 (Instr.eq_of_shape_eq h)) s
    rw [exec_eq_run, hrun, start_of_haltShadow hs]
  case limm =>
    have hlimm : i.shape.limmPart.1 = true := hl
    have hne {v : Shape} (hv : v.limmPart.1 = false) : i.shape ≠ v := by
      rintro rfl
      exact absurd (hv.symm.trans hlimm) Bool.false_ne_true
    obtain ⟨k, hrun⟩ := Shape.exists_run_eq_start (v := i.shape) (hne rfl) (hne rfl) s
    rw [exec_eq_run, hrun, start_of_limm hs (fun _ => has_of_present hpres) hp hlimm]
  case transfer =>
    have hlimm : i.shape.limmPart.1 = false := hl
    have hn {l : Len} (hl : l.limm = false) : s.NoHazard l none := noHazard_of_no_limm hs hl
    rw [exec_eq_run]
    generalize i.shape = v at hlimm hkind
    have branch {x : BranchArgs} (hx : v.branchArgs = some x) : runBranch x s = .refused .branchInDelaySlot :=
      runBranch_inDelaySlot (hn (Shape.len_of_branchArgs hx ▸ hlimm)) hp
    cases v with
    | jump | jumpD | bcc | bfar | blcc | bl | br | ctl16 => exact branch rfl
    | jumpF form => exact runReturn_inDelaySlot form (hn rfl) hp
    | lp form => exact runLp_inDelaySlot form (hn rfl) hp
    | _ => exact hkind.elim
  case cmpBranch =>
    have hn : s.NoHazard ⟨false, false⟩ none := noHazard_of_no_limm hs rfl
    exact ⟨runSleep_afterCompareBranch hn hp, runSwi_afterCompareBranch hn hp⟩
  case slot =>
    exact ⟨fun hp => runSwi_inDelaySlot (l := ⟨false, false⟩) (noHazard_of_no_limm hs rfl) hp hd,
      runBreak_inDelaySlot (l := len16) (noHazard_of_no_limm hs rfl) hd⟩
  case tooSoon => exact (exec_ofShape (.jumpF form) s).trans (runReturn_tooSoon form (noHazard_of_no_limm hs rfl) hp h)
  case mulHi => exact (exec_ofShape (.sr form) s).trans (runSr_mulHiBusy hn hv ha hmul hbusy)
  case reserved =>
    rw [exec_eq_run]
    exact Shape.run_reserved h hc ⟨hs, hl, fun _ => has_of_present hpres⟩ hp hd

end Machine

end Sys2Proof
end

section
/-! Words written out from the spec, and the host's write of STATUS32 (60_exceptions.md R612). -/

namespace Sys2Proof

open Machine

/-- Settles O3: each word is decoded by its fields. -/
theorem specWordsDecode : Obligations.SpecWordsDecode :=
  ⟨rfl, rfl, rfl, rfl, rfl, rfl, rfl, rfl, rfl, rfl, rfl⟩

namespace Machine

/-- Settles O51: a running core takes bit 0 alone, a halted one the register, and bit 0 decides whether it restarts. -/
theorem hostStatusWrite : Obligations.HostStatusWrite := by
  intro s v
  refine ⟨fun hh => ?running, fun hh hv => ?halted, fun hh hv => ?restarted⟩
  case running => rw [State.hostWriteStatus32, hh, cond_false, bitAt_eq_getLsbD]
  case halted => rw [State.hostWriteStatus32, hh, cond_true, bitAt_eq_getLsbD, hv, cond_true, setStatus_eq, hh]
  case restarted => rw [State.hostWriteStatus32, hh, cond_true, bitAt_eq_getLsbD, hv, cond_false, setStatus_eq, State.clearHalt]

end Machine

end Sys2Proof
end
